-- ==== Sys2Proof/Word.lean ====
section
/-! DEFINITION. The word type of the three links: the byte. Everything wider (two-byte positions, signed numbers) is built
from bytes in Machine/Operands.lean. -/

namespace Sys2Proof

/-- One byte on a link; also an 8-bit typing code (00_scope, Typing code) and a command tag, 0 to 255. -/
abbrev Byte := BitVec 8

end Sys2Proof
end

