-- ==== Sys2Proof/Syntax.lean ====
section
/-! DEFINITION. The commands, operations and events of the engine: one constructor for each row of spec/opcode_table.json.
The table gives no operands; each constructor carries what the spec says the outside supplies at that step (a frame, a byte, an
axis, a hub code, the sensors). A composer take (CHAR to SPELL_REPORTS) carries nothing: its command, parameters, tag and notify
flag stand in the inbound queue item it takes (R170). Log entries 1 and 2. -/

namespace Sys2Proof

/-- 00_scope, Terms: a port is the console or the interface, as a source of commands and a destination of reports. -/
inductive Port where
  | console
  | interface
  deriving DecidableEq, Repr

/-- R81: the three supervised axes. -/
inductive Axis where
  | carriage
  | wheel
  | feed
  deriving DecidableEq, Repr

/-- R93: the sensors sampled at power-on release; true is the condition that sets the hold reason. -/
structure Sensors where
  coverOpen : Bool
  paperReleased : Bool
  ribbonOut : Bool
  tapeOut : Bool
  paperOut : Bool
  deriving DecidableEq, Repr

/-- R184: a whole console frame: byte 0 the code, byte 1 the tag, byte 2 the flags, byte 3 the count of the parameters, which
then follow. -/
structure ConsoleFrame where
  code : Byte
  tag : Byte
  flags : Byte
  params : List Byte
  deriving DecidableEq, Repr

/-- An immediate command arriving from a port (R169): in a console frame, or as a complete command sequence of the interface.
Where two commands share a code (R184's catalogue: ACCEPT and ACCEPT AND LEARN, the word lists' adds and removes, REMOTE HOLD and
RELEASE), params are the parameters AFTER the one that selects between them: the row itself says which it is. -/
structure Arrival where
  port : Port
  tag : Byte
  params : List Byte
  deriving DecidableEq, Repr

/-- R191, R192: one character frame received on the interface link: its data bits, its parity bit (read in the parity formats
only), and its stop bit (true at mark level). since is how many LINK FORMATs have been taken since its start bit, 0 but for a
character that was coming in when one arrived: it is read in the format that was in force at its start bit (R190). -/
structure RxFrame where
  data : Byte
  parity : Bool
  stop : Bool
  since : Nat
  deriving DecidableEq, Repr

/-- R184: when the console releases the select: before the last frame byte is complete; after arrival but before the reply's
last byte; just after the reply's last byte; or after further bytes beyond it. -/
inductive ReleaseMoment where
  | inFrame
  | inReply
  | atReplyEnd
  | afterExtra
  deriving DecidableEq, Repr

/-- The rows of spec/opcode_table.json, in the table's order. -/
inductive Instr where
  /-- POWER_ON_RELEASE (R197). The RESET line returns to inactive, every block takes its power-on values, the sensors are sampled and homing starts unless the cover is open. -/
  | powerOnRelease (sensors : Sensors)
  /-- QUEUED_COMMAND_ARRIVAL (R170). A console frame carrying a queued command arrives and is placed in the console inbound queue (ACCEPTED) or discarded (QUEUE FULL), after the frame checks of R184. -/
  | queuedCommandArrival (frame : ConsoleFrame)
  /-- CONSOLE_SELECT_RELEASE (R184). The console releases the select; a release before the frame is complete discards the frame, a release during or after the reply sets the frame-length error flag, and a TAKE cut short removes nothing. -/
  | consoleSelectRelease (moment : ReleaseMoment)
  /-- CONSOLE_OVERRUN (R186). The console asserts the select again before the 50 us recovery time has passed; the overrun flag is set and no byte of the transaction is taken. -/
  | consoleOverrun
  /-- INTERFACE_BYTE (R191). A character frame is received on the interface link and decoded as text, as part of a command sequence, or ignored; a complete sequence then arrives. -/
  | interfaceByte (rx : RxFrame)
  /-- BREAK (R193). The interface receive line has been at space level for two character frames; the break is detected and an interface reset with cause BREAK is made. -/
  | breakDetected
  /-- IMPLIED_RETURN_FLUSH (R182). Once two places are free, the MOVE and FEED of the implied RETURN FLUSH that an interface reset made in DIRECT mode are placed, the interface line closes, and the grant becomes NONE. -/
  | impliedReturnFlush
  /-- TXREADY_ASSERTED (R195). The board asserts TXREADY, and the transmitter begins a report frame for the head record if it is idle and the queue is not empty. -/
  | txreadyAsserted (level : Bool)
  /-- REPORT_FRAME_END (R195). The transmitter sends the last byte of a report frame, the record leaves the interface report queue, and the next frame begins if TXREADY is asserted and records wait. -/
  | reportFrameEnd
  /-- DISPLAY_SELECT (R161). The display controller asserts the select; a snapshot of the display image is taken, and the generation number is sent as the first byte. -/
  | displaySelect
  /-- WINDOW_FETCH (R162). The first display byte carries the WINDOW FETCH code and starts a window fetch, whose parameter byte follows. -/
  | windowFetch
  /-- WINDOW_FETCH_PARAMETER (R162). The parameter byte of a window fetch is taken; the start cell is chosen, the continuous-fetch state is set from the continue flag, and cells or 0xFF follow. -/
  | windowFetchParameter (param : Byte)
  /-- CONTINUE_FETCH (R163). With the continuous-fetch state on, a first byte carrying no command continues the fetch from start cell s of this transaction's snapshot. -/
  | continueFetch (first : Byte)
  /-- STATUS_FETCH (R165). The first display byte carries the STATUS FETCH code; display ATTN is lowered, and the snapshot's status record is sent. -/
  | statusFetch
  /-- STOP (R164). The first display byte carries the STOP code; the continuous-fetch state is turned off, and 0xFF is sent after the generation number. -/
  | stopFetch
  /-- DISPLAY_NO_COMMAND (R166). With the continuous-fetch state off, a first display byte that is not a fetch code is answered with 0xFF after the generation number. -/
  | displayNoCommand (first : Byte)
  /-- DISPLAY_SELECT_RELEASE (R161). The display controller releases the select and the transaction ends; a release before the first byte is complete takes no command. -/
  | displaySelectRelease
  /-- SETTLED_SIGNAL (R81). An axis's settled signal is taken before its limit expires; the motion completes, and the entry goes on through its steps, possibly completing and letting the next entry begin. -/
  | settledSignal (axis : Axis)
  /-- MOTION_LIMIT_EXPIRY (R82). A motion's limit runs out before its settled signal; the attempt fails, the attempt count rises, and the axis is re-homed and retried or the sequencer enters FAULT. -/
  | motionLimitExpiry
  /-- INDEX_PULSE (R83). The wheel index pulse is taken; it is counted for a rotation, ends a wheel re-homing, or ends the homing index search and leads to the hub code read and the pitch test. -/
  | indexPulse (hubCode : Fin 64)
  /-- CARRIAGE_HOME (R87). The carriage home signal settles a homing or re-homing of the carriage at the left stop, and the physical carriage position becomes 0. -/
  | carriageHome
  /-- INDEX_SEARCH_EXPIRY (R87). The homing index search reaches 200 petal steps or 600 ms without the index; WHEEL ABSENT joins the hold-reason set and homing goes on with code 0. -/
  | indexSearchExpiry
  /-- COVER_OPENS (R93). The cover opens; COVER OPEN joins the hold-reason set, and a homing in progress stops after its current motion. -/
  | coverOpens
  /-- COVER_CLOSES (R93). The cover closes; COVER OPEN leaves the set and the homing request is set. -/
  | coverCloses
  /-- PAPER_END (R93). The paper-end sensor reports paper end, and PAPER OUT joins the hold-reason set. -/
  | paperEnd
  /-- PAPER_PRESENT (R93). The paper-end sensor reports paper present, and PAPER OUT leaves the set. -/
  | paperPresent
  /-- PAPER_RELEASE_LEVER_OPENS (R93). The paper release lever opens, and PAPER RELEASED joins the set. -/
  | paperReleaseLeverOpens
  /-- PAPER_RELEASE_LEVER_CLOSES (R106). The paper release lever closes; the correction memory is cleared, and then PAPER RELEASED leaves the set. -/
  | paperReleaseLeverCloses
  /-- RIBBON_END (R93). The ribbon end sensor fires, and RIBBON OUT joins the set. -/
  | ribbonEnd
  /-- RIBBON_REPLACED (R93). The ribbon is replaced, and RIBBON OUT leaves the set. -/
  | ribbonReplaced
  /-- TAPE_END (R93). The lift-off tape end sensor fires, and TAPE OUT joins the set. -/
  | tapeEnd
  /-- TAPE_REPLACED (R93). The lift-off tape is replaced, and TAPE OUT leaves the set. -/
  | tapeReplaced
  /-- CHECK_COMPLETION (R140). A spelling check completes; its result is decided and applied or reported, the next check begins, and the composer is told. -/
  | checkCompletion
  /-- LINE_HOLD_TIMER_EXPIRY (R177). The line hold timer expires; the takeover request is set and the composer stops taking queued commands. -/
  | lineHoldTimerExpiry
  /-- TAKEOVER (R178). When it is first allowed, the interface line is ended by an implied RETURN FLUSH, GRANT TAKEN is queued, and the grant passes to the console. -/
  | takeover
  /-- PRINT_LINE_FEEDING (R62). When the strike queue has room, the print line places as many consecutive whole groups as fit at its cursor. -/
  | printLineFeeding
  /-- CLOSING_PLACEMENTS (R63). When the cursor has passed the last entry and room is free, the MOVE, FEED, LINE DONE mark and optional DONE mark are placed, and the print line becomes FREE. -/
  | closingPlacements
  /-- LIFT_PLACEMENT (R121). A correction in progress places the LIFT entries of its next remaining target once room is free or the awaited strike has finished, and moves to CLOSING. -/
  | liftPlacement
  /-- CHAR (R30). The composer takes a character, adds an entry and advances the print point, placing its group in DIRECT mode or holding it in LINE mode. -/
  | char
  /-- SPACE (R32). The composer takes a space, or turns it into an implied RETURN. -/
  | space
  /-- TAB (R34). The composer moves the print point to the next tab stop and adds a TAB entry, with a MOVE in DIRECT mode. -/
  | tab
  /-- BACKSPACE (R35). The composer moves the print point back by the width of the nearest entry to its left, or by the space width. -/
  | backspace
  /-- MICRO_LEFT (R36). The composer moves the print point 1 unit left, clamped at 0. -/
  | microLeft
  /-- MICRO_RIGHT (R36). The composer moves the print point 1 unit right, clamped at 1800. -/
  | microRight
  /-- INDEX (R37). The composer moves the logical vertical position one half-line down and places a FEED. -/
  | indexCmd
  /-- REVERSE_INDEX (R37). The composer moves the logical vertical position one half-line up and places a FEED. -/
  | reverseIndex
  /-- RETURN (R38). The composer returns the carriage and feeds the paper in DIRECT mode, or releases the line in LINE mode. -/
  | ret
  /-- RETURN_FLUSH (R38). RETURN with the line released flush left in LINE mode. -/
  | returnFlush
  /-- BOLD_ON (R40). The issuing port's bold attribute is turned on. -/
  | boldOn
  /-- BOLD_OFF (R40). The issuing port's bold attribute is turned off. -/
  | boldOff
  /-- UNDERLINE_ON (R40). The issuing port's underline attribute is turned on. -/
  | underlineOn
  /-- UNDERLINE_OFF (R40). The issuing port's underline attribute is turned off. -/
  | underlineOff
  /-- MARGIN_RELEASE (R41). The margin release setting is set until the next line close. -/
  | marginRelease
  /-- CENTER (R42). In LINE mode the alignment request is set to CENTRE. -/
  | center
  /-- ALIGN_RIGHT (R42). In LINE mode the alignment request is set to RIGHT. -/
  | alignRight
  /-- CORRECT (R118). The rightmost candidate group is deleted, withdrawn or lifted, and the print point moves to it. -/
  | correct
  /-- WORD_CORRECT (R114). The word left of the print point is deleted, withdrawn or lifted, and the print point moves to its start. -/
  | wordCorrect
  /-- LINE_CORRECT (R113). Every candidate group left of the print point is deleted, withdrawn or lifted. -/
  | lineCorrect
  /-- LIFT_CHARACTER (R128). A LIFT for a named code is placed one escapement left of the print point, without a record reference. -/
  | liftCharacter
  /-- RELOCATE (R129). The print point is set to the end of the line, with a MOVE in DIRECT mode. -/
  | relocate
  /-- LEFT_MARGIN (R43). LM is set, or kept pending until the close of the open line. -/
  | leftMargin
  /-- RIGHT_MARGIN (R44). RM is set after the BAD MARGIN and MARGIN CONFLICT tests. -/
  | rightMargin
  /-- TAB_SET (R45). A position is added to the tab stops. -/
  | tabSet
  /-- TAB_CLEAR (R45). A position is removed from the tab stops. -/
  | tabClear
  /-- TAB_CLEAR_ALL (R45). The set of tab stops is emptied. -/
  | tabClearAll
  /-- SPACING (R46). The line spacing is set. -/
  | spacing
  /-- IMPRESSION (R14). The impression setting is set for PRINT entries that begin later. -/
  | impression
  /-- AUTO_RETURN_ZONE (R46). The auto-return zone Z is set. -/
  | autoReturnZone
  /-- STRETCH_LIMIT (R46). Smax is set. -/
  | stretchLimit
  /-- JUSTIFY (R46). Justification is turned on or off. -/
  | justify
  /-- MODE (R47). The composer mode is set to DIRECT or LINE. -/
  | modeCmd
  /-- SPELL_MODE (R145). The spelling mode is set; a change to OFF removes line checks. -/
  | spellMode
  /-- SPELL_REPORTS (R145). The interface spell report setting is set. -/
  | spellReports
  /-- WORD_CHECK (R151). A check of a word is placed in the check queue, and its CHECK RESULT follows later. -/
  | wordCheck (arrival : Arrival)
  /-- ECHO (R180). The echo setting is set ON or OFF. -/
  | echo (arrival : Arrival)
  /-- LINK_FORMAT (R190). The interface rate and format are changed. -/
  | linkFormat (arrival : Arrival)
  /-- PEEK (R188). The head record of the console report queue is returned without being removed. -/
  | peek (arrival : Arrival)
  /-- TAKE (R188). The head record of the console report queue is returned, and it leaves when the last reply byte is clocked. -/
  | takeReport (arrival : Arrival)
  /-- STATUS (R186). The link and sequencer status is returned, and the console and interface error flags and counts are cleared. -/
  | status (arrival : Arrival)
  /-- RESUME (R91). The homing request is set so that the sequencer homes and reads the wheel again. -/
  | resume (arrival : Arrival)
  /-- CLEAR_FAULT (R85). The sequencer leaves FAULT, resets the attempt count and requests homing. -/
  | clearFault (arrival : Arrival)
  /-- CONTINUE (R92). PITCH CHANGED is removed so that the waiting PRINT entries strike at their composed positions. -/
  | continueCmd (arrival : Arrival)
  /-- CANCEL_PENDING (R70). Every queued PRINT entry is removed, PITCH CHANGED is cleared, and the entries concerned are taken off the compose line and the print line. -/
  | cancelPending (arrival : Arrival)
  /-- ACCEPT (R147). Every UNKNOWN or FLAGGED word of the line becomes ACCEPTED. -/
  | accept (arrival : Arrival)
  /-- ACCEPT_AND_LEARN (R148). Every UNKNOWN or FLAGGED word is accepted, and the UNKNOWN words are added to the user word list where there is room. -/
  | acceptAndLearn (arrival : Arrival)
  /-- USER_WORD_ADD (R149). A word is added to the user word list. -/
  | userWordAdd (arrival : Arrival)
  /-- USER_WORD_REMOVE (R150). A word is removed from the user word list. -/
  | userWordRemove (arrival : Arrival)
  /-- REJECT_WORD_ADD (R149). A word is added to the reject word list. -/
  | rejectWordAdd (arrival : Arrival)
  /-- REJECT_WORD_REMOVE (R150). A word is removed from the reject word list. -/
  | rejectWordRemove (arrival : Arrival)
  /-- LIST_CLEAR (R150). The named word list is emptied. -/
  | listClear (arrival : Arrival)
  /-- WHEEL_DEFINE (R3). A wheel descriptor is created or replaced in a slot, possibly redirected, and the wheel holds are updated. -/
  | wheelDefine (arrival : Arrival)
  /-- WHEEL_MAP (R6). Petal records are written into a wheel descriptor. -/
  | wheelMap (arrival : Arrival)
  /-- DISPLAY_WIDTH (R157). The display width is set, and a change of width ends the continuous fetch. -/
  | displayWidth (arrival : Arrival)
  /-- REMOTE_HOLD (R175). The REMOTE HOLD setting is turned on so that the interface is not granted at boundaries. -/
  | remoteHold (arrival : Arrival)
  /-- RELEASE (R175). REMOTE HOLD is turned off, and a grant decision is made. -/
  | release (arrival : Arrival)
  /-- HOLD_TIME (R176). The grant hold time is set for later timer starts. -/
  | holdTime (arrival : Arrival)
  /-- ATTN_LEVEL (R187). The console ATTN threshold is set, and ATTN is set anew against it. -/
  | attnLevel (arrival : Arrival)
  /-- RESET_ENGINE (R196). Queues, links, line store, strike queue, memory and arbiter are reset, ENGINE RESET is queued urgent, and homing is requested. -/
  | resetEngine (arrival : Arrival)
  /-- REPLY_LAST_BYTE_CLOCKED (R188). The console clocks the last byte of a TAKE reply, and only then does the head record leave the console report queue, ATTN is set anew and its place is freed. -/
  | replyLastByteClocked
  /-- BREAK_END (R193). The interface receive line returns to mark level after a break, so the receiver regains its footing and the next start bit begins a new byte decoded as stream. -/
  | breakEnd
  deriving DecidableEq, Repr

end Sys2Proof
end

