-- ==== Sys2Proof/Decode.lean ====
section
/-! DEFINITION. The word decoder of the opcode table. No row of spec/opcode_table.json gives bits (98_reader.md: 0 rows with
fixed bits, 0 with fields), so no word spells a command. The decoding of frames and of the interface byte stream, which the spec
does give, is in Machine/Links.lean. -/

namespace Sys2Proof

/-- The command that a word spells by the table's bits: none, since the table gives no row any bits. -/
def decodeTableWord (_nbits _w : Nat) : Option Instr := none

end Sys2Proof
end

