-- ==== Sys2Proof/Config.lean ====
section
/-! DEFINITION. What the manual fixes for every engine (capacities and ranges), and the free values: constants with no body,
so that no proof can rest on what they are. -/

namespace Sys2Proof.Config

/-- R67: places of the strike queue. -/
def strikePlaces : Nat := 64
/-- R170: places of the console inbound queue. -/
def consolePlaces : Nat := 16
/-- R171: places of the interface inbound queue. -/
def interfacePlaces : Nat := 48
/-- R189: places of each report queue. -/
def reportPlaces : Nat := 32
/-- R139: places of the check queue. -/
def checkPlaces : Nat := 8
/-- R97: line slots of the correction memory. -/
def memorySlots : Nat := 4
/-- R97: strike records of the correction memory, all slots together. -/
def memoryRecords : Nat := 512
/-- R22: entries of the compose line. -/
def lineEntries : Nat := 200
/-- R45: tab stops. -/
def tabStops : Nat := 32
/-- R149: words of the user word list. -/
def userWords : Nat := 64
/-- R149: words of the reject word list. -/
def rejectWords : Nat := 16
/-- 00_scope: the carriage travel, 0 to 1800 units. -/
def travel : Nat := 1800
/-- 00_scope: the last half-line of the vertical range, 0 to 1023. -/
def lastHalfLine : Nat := 1023
/-- R43, R44: the least distance from LM to RM. -/
def marginSpan : Nat := 120
/-- R142: bits of the lexicon signature. -/
def signatureBits : Nat := 131072

/-- R142: bit n of the lexicon signature, fixed at manufacture. Its content is outside the manual (00_scope, What this manual
covers), so it is a free value. Log entry 4. -/
opaque signature : Nat → Bool

/-- R190: a LINK FORMAT can change a 7-bit format to an 8-bit one between the two characters of a split byte. The later
character "is read in the new format"; the manual does not say what byte the pair makes. A free value of the high half already
received and the byte that follows. Log entry 5. -/
opaque mixedSplit : Nat → Byte → Byte

/-- R114, third test: the BASE code of a closed line's group whose BASE record a truncation removed (R102) and of which only
UNDERSCORE strikes are left. The engine no longer holds it and the manual does not say what is measured in its place. A free
typing code of the group number; the escapement is then R12's, so it stays one of 6, 8, 10, 12 and 14. Log entry 6. -/
opaque lostBaseCode : Nat → Byte

end Sys2Proof.Config
end

