-- ==== Sys2Proof/Machine/State.lean ====
section
/-! DEFINITION. The state of the engine, block by block as 00_scope lists the blocks, and the state after power-on release. -/

namespace Sys2Proof.Machine

/-! ## Outcomes -/

/-- The reasons the machine stops with a fault: none. Nothing in the spec stops the block: the sequencer's FAULT (R84) is a state
of State, not an end of the run. -/
inductive Fault where
  deriving DecidableEq, Repr

/-- The reasons a command is given no meaning. The refusals of the spec (REFUSED, BUSY, NOT ALLOWED …) are effects on State, not
these. -/
inductive Refusal where
  /-- Raised by an arm of exec whose row has no meaning yet; safe, since the machine stops. No arm raises it now. -/
  | notModelled (mnemonic : String)
  deriving DecidableEq, Repr

/-! ## Wheel table (R1, R2) -/

/-- Pitch class of a descriptor and of a composed strike (R2, R13). -/
inductive Pitch where
  | p10
  | p12
  | p15
  | ps
  deriving DecidableEq, Repr

/-- R2: one petal of a wheel; code none is a petal that is never struck. -/
structure PetalRec where
  code : Option Byte
  widthClass : Nat
  impression : Nat
  deriving DecidableEq, Repr

/-- R2: a wheel descriptor; its slot is its place in the table. -/
structure Descriptor where
  code : Nat
  pitch : Pitch
  petals : List PetalRec
  deriving DecidableEq, Repr

/-! ## Refusals and reports (10_console_and_interface_links, Reports) -/

/-- The twenty refusal reasons, in the order of their codes 1 to 20. -/
inductive Reason where
  | badParameter | unknownCommand | notAllowed | busy | lineFull | margin | notOnWheel | noTabStop | lineOpen | badMargin
  | marginConflict | tabsFull | notInMode | notRemembered | spellingHold | slotEmpty | badWord | listFull | inFault | noFault
  deriving DecidableEq, Repr

/-- What a REFUSED report carries beyond the reason and the command code (R130 and the report table). -/
inductive RefusalDetail where
  | plain
  | line (v : Nat) (key : Nat)
  | typingCode (c : Byte)
  deriving DecidableEq, Repr

/-- R16: what a strike is to its group. -/
inductive Role where
  | base
  | boldSecond
  | underscore
  deriving DecidableEq, Repr

/-- R141: the result of a check. -/
inductive CheckResult where
  | known
  | unknown
  | flagged
  deriving DecidableEq, Repr

/-- R141: what decided a check. -/
inductive Basis where
  | rejectList
  | userList
  | signature
  deriving DecidableEq, Repr

/-- R57: why a line is loose. -/
inductive LooseCause where
  | stretch
  | brokenSpan
  deriving DecidableEq, Repr

/-- R42, R54: an alignment request that is set. -/
inductive Alignment where
  | centre
  | right
  deriving DecidableEq, Repr

/-- R60: why an alignment request was ignored. -/
inductive IgnoreCause where
  | tab
  | marginRelease
  deriving DecidableEq, Repr

/-- R47: the composer's mode. -/
inductive Mode where
  | direct
  | line
  deriving DecidableEq, Repr

/-- R181: what made an interface reset. -/
inductive ResetCause where
  | brk
  | sequence
  deriving DecidableEq, Repr

/-- R181: what an interface reset did to the interface's line. -/
inductive LineEffect where
  | none
  | flushed
  | discarded
  deriving DecidableEq, Repr

/-- R192: the three error flags of the interface link. -/
inductive LinkError where
  | framing
  | parity
  | overrun
  deriving DecidableEq, Repr

/-- R73: the eight hold reasons, in the table's order. -/
inductive Hold where
  | coverOpen
  | wheelAbsent
  | wheelUndefined
  | pitchChanged
  | paperReleased
  | ribbonOut
  | tapeOut
  | paperOut
  deriving DecidableEq, Repr

/-- R73: the hold-reason set, each reason at most once. -/
structure Holds where
  coverOpen : Bool
  wheelAbsent : Bool
  wheelUndefined : Bool
  pitchChanged : Bool
  paperReleased : Bool
  ribbonOut : Bool
  tapeOut : Bool
  paperOut : Bool
  deriving DecidableEq, Repr

/-- R71: the five states of the sequencer. -/
inductive SeqState where
  | idle
  | running
  | blocked
  | homing
  | fault
  deriving DecidableEq, Repr

/-- R94, R84: what a MECH report tells. entryKind is 0 PRINT to 4 MARK, none when no entry is stopped. -/
inductive MechEvent where
  | joined (h : Hold)
  | left (h : Hold)
  | fault (axis : Axis) (entryKind : Option Nat) (groupAndPosition : Option (Nat × Nat))
  deriving DecidableEq, Repr

/-- The twenty report kinds with what each carries (the report table of 10_console_and_interface_links). -/
inductive Report where
  | done
  | lineDone (v : Nat)
  | refused (reason : Reason) (command : Byte) (detail : RefusalDetail)
  | spellAlert (letters : List Byte) (start v : Nat) (flagged : Bool)
  | checkResult (letters : List Byte) (result : CheckResult) (basis : Basis)
  | userWordAdded (letters : List Byte)
  | mech (event : MechEvent) (holds : Holds) (state : SeqState)
  | wheelChanged (old new : Nat)
  | unprinted (group pos : Nat) (code : Byte) (role : Option Role)
  | looseLine (v : Nat) (cause : LooseCause) (e g : Nat)
  | alignIgnored (v : Nat) (request : Alignment) (cause : IgnoreCause)
  | partialLift (v placed shorts key : Nat)
  | wheelMismatch (group pos liftWheel mounted : Nat)
  | liftLost (group pos : Nat)
  | grantTaken (v : Nat) (mode : Mode)
  | echo (command : Byte) (arg : Option Byte)
  | interfaceReset (cause : ResetCause) (effect : LineEffect)
  | interfaceError (which : LinkError) (framing parity overrun : Bool) (framingCount parityCount overrunCount : Nat)
  | engineReset
  | lost (count : Nat)
  deriving DecidableEq, Repr

/-- A report record as it stands in a queue: its kind and parameters, its tag, its urgent flag. -/
structure Record where
  body : Report
  tag : Byte
  urgent : Bool
  deriving DecidableEq, Repr

/-- R189: a report queue with its loss flag, lost count and urgent-lost flag. -/
structure ReportQueue where
  records : List Record
  loss : Bool
  lost : Nat
  urgentLost : Bool
  deriving DecidableEq, Repr

/-! ## Queued commands and the link units -/

/-- The queued commands of the catalogue with their parameters as carried: a parameter's range is tested at the take (R184).
A position parameter is the number its two bytes make. -/
inductive QCmd where
  | char (code : Byte)
  | space
  | tab
  | backspace
  | micro (sel : Nat)
  | indexDown
  | reverseIndex
  | ret (sel : Nat)
  | bold (sel : Nat)
  | underline (sel : Nat)
  | marginRelease
  | center
  | alignRight
  | correct
  | wordCorrect
  | lineCorrect
  | liftCharacter (code : Byte)
  | relocate
  | leftMargin (pos : Nat)
  | rightMargin (pos : Nat)
  | tabStop (sel pos : Nat)
  | spacing (n : Nat)
  | impression (n : Nat)
  | autoReturnZone (n : Nat)
  | stretchLimit (n : Nat)
  | justify (n : Nat)
  | mode (n : Nat)
  | spellMode (n : Nat)
  | spellReports (n : Nat)
  deriving DecidableEq, Repr

/-- R170: an item of an inbound queue. -/
structure QItem where
  cmd : QCmd
  tag : Byte
  notify : Bool
  deriving DecidableEq, Repr

/-- R184, R188: the console transaction in progress. replying holds whether the reply is a TAKE's whose record is to leave at its
last byte; ignored is a transaction of which no byte is taken (R186). -/
inductive ConsoleTxn where
  | none
  | replying (takePending : Bool)
  | ignored
  deriving DecidableEq, Repr

/-- The console link unit (R184 to R189). reply is the last reply fixed at an arrival: status, length, data; it is empty in a
transaction of which no byte is taken (R186). -/
structure ConsoleLink where
  inbound : List QItem
  reports : ReportQueue
  frameError : Bool
  overrun : Bool
  attnLevel : Nat
  txn : ConsoleTxn
  reply : List Byte
  deriving DecidableEq, Repr

/-- R190: the interface character formats. -/
inductive LineFormat where
  | n8
  | e8
  | o8
  | e7
  | o7
  deriving DecidableEq, Repr

/-- R190: the interface rates, codes 0 to 5. -/
inductive Rate where
  | b1200
  | b2400
  | b4800
  | b9600
  | b19200
  | b38400
  deriving DecidableEq, Repr

/-- R191: the command sequence being assembled. half is the first character of a split byte, already read, as its four bits. -/
inductive Assembly where
  | idle
  | code (notify : Bool)
  | unknownTag (code : Byte) (half : Option Nat)
  | body (notify : Bool) (code : Byte) (got : List Byte) (half : Option Nat)
  deriving DecidableEq, Repr

/-- R195: the transmitter's copy of the frame it is sending; queued while the record still stands at the queue's head. -/
structure TxFrame where
  bytes : List Byte
  queued : Bool
  deriving DecidableEq, Repr

/-- The interface link unit (R171, R189 to R195, R180). earlierFormats are the formats that LINK FORMAT has replaced, the last replaced
first, for a character whose start bit came under one of them (log entry 32); inBreak holds from a break's detection to the line's return to mark level (R193). -/
structure InterfaceLink where
  inbound : List QItem
  reports : ReportQueue
  rate : Rate
  format : LineFormat
  earlierFormats : List LineFormat
  framing : Bool
  parity : Bool
  overrun : Bool
  framingCount : Nat
  parityCount : Nat
  overrunCount : Nat
  assembly : Assembly
  tx : Option TxFrame
  txReady : Bool
  echo : Bool
  inBreak : Bool
  deriving DecidableEq, Repr

/-! ## The display (R153 to R167) -/

/-- R154: a window cell. -/
structure Cell where
  code : Byte
  cursor : Bool
  bold : Bool
  underline : Bool
  marker : Bool
  pending : Bool
  unprintable : Bool
  deriving DecidableEq, Repr

/-- R145: the spelling modes. -/
inductive SpellMode where
  | off
  | alert
  | hold
  deriving DecidableEq, Repr

/-- R158: the status record, less the generation number, W and F, which the image holds. -/
structure StatusRec where
  mode : Mode
  justify : Bool
  spelling : SpellMode
  lineOpen : Bool
  grant : Option Port
  sequencer : SeqState
  holds : Holds
  column : Nat
  unitsToRm : Int
  refusal : Option Reason
  lineCells : Nat
  deriving DecidableEq, Repr

/-- R153: the display image. -/
structure Image where
  width : Nat
  first : Nat
  cells : List Cell
  status : StatusRec
  generation : Nat
  deriving DecidableEq, Repr

/-- R153: the display composer: the image and the level of display ATTN. -/
structure Display where
  image : Image
  attn : Bool
  deriving DecidableEq, Repr

/-- R161 to R166: what the rest of a display transaction carries. cells: the window from a start cell, the first of its bytes in
place firstPlace of the transaction. -/
inductive Stream where
  | awaitCommand
  | awaitParameter
  | cells (start firstPlace : Nat)
  | statusRecord
  | filler
  deriving DecidableEq, Repr

/-- R161: a display transaction: its snapshot, its stream, and the current fetch position, the place of the next byte.
widthChanged: a DISPLAY WIDTH has changed W since the select (R164), so the next transaction is to find the continuous fetch off. -/
structure DisplayTxn where
  snapshot : Image
  stream : Stream
  position : Nat
  widthChanged : Bool
  deriving DecidableEq, Repr

/-- The display link unit: the continuous-fetch state (on with a start cell, or off) and the transaction in progress. -/
structure DisplayLink where
  continuous : Option Nat
  txn : Option DisplayTxn
  deriving DecidableEq, Repr

/-! ## The composer and its arbiter -/

/-- R22: the kinds of a line entry. -/
inductive EntryKind where
  | char
  | space
  | tab
  deriving DecidableEq, Repr

/-- R23: the print states of a compose line entry. -/
inductive PrintState where
  | held
  | pending
  | struck
  | lifted
  | unprintable
  deriving DecidableEq, Repr

/-- R22: a compose line entry. -/
structure Entry where
  kind : EntryKind
  code : Byte
  pos : Nat
  width : Nat
  bold : Bool
  underline : Bool
  group : Option Nat
  state : PrintState
  marker : Bool
  deriving DecidableEq, Repr

/-- R21: the compose line. -/
structure ComposeLine where
  port : Port
  vpos : Nat
  opening : Nat
  marginRelease : Bool
  entries : List Entry
  underscoreReported : Bool
  deriving DecidableEq, Repr

/-- R50: an entry of the print line. -/
structure PrintEntry where
  kind : EntryKind
  code : Byte
  pos : Nat
  width : Nat
  bold : Bool
  underline : Bool
  group : Option Nat
  unprintable : Bool
  deriving DecidableEq, Repr

/-- R50: the print line while FEEDING. The notify flag says whether a DONE mark follows the LINE DONE mark. -/
structure PrintLine where
  port : Port
  vpos : Nat
  tag : Byte
  notify : Bool
  entries : List PrintEntry
  cursor : Nat
  moveTarget : Nat
  feedAmount : Nat
  feedResult : Nat
  underscoreReported : Bool
  deriving DecidableEq, Repr

/-- R14: the impression setting. -/
inductive Impression where
  | light
  | normal
  | heavy
  deriving DecidableEq, Repr

/-- R120: the corrections that can be in progress. -/
inductive CorrectionKind where
  | correct
  | wordCorrect
  | lineCorrect
  deriving DecidableEq, Repr

/-- R120: a remaining target. key, space and withdrawn are what the take's lookup found: its key position, whether it is a space
group (R113), and whether all of its strikes were waiting in the queue, so that the take withdraws it before any of it reaches the
paper (R119). Log entries 12 and 18. -/
structure Target where
  group : Nat
  key : Nat
  space : Bool
  withdrawn : Bool
  deriving DecidableEq, Repr

/-- R120: the phases of a correction in progress. -/
inductive Phase where
  | placing
  | waitingOnStrike
  | closing
  deriving DecidableEq, Repr

/-- R120: the correction in progress. -/
structure Correction where
  kind : CorrectionKind
  tag : Byte
  notify : Bool
  port : Port
  vpos : Nat
  remaining : List Target
  placed : Nat
  shorts : Nat
  leftmostShort : Option Nat
  phase : Phase
  deriving DecidableEq, Repr

/-- The composer (R21 to R48, R120). A print line of none is FREE. lastRefusal is the status record's last console refusal
(R28). -/
structure Composer where
  line : Option ComposeLine
  printLine : Option PrintLine
  printPoint : Nat
  vpos : Nat
  lm : Nat
  pendingLm : Option Nat
  rm : Nat
  tabs : List Nat
  mode : Mode
  justify : Bool
  spacing : Nat
  impression : Impression
  zone : Nat
  smax : Nat
  consoleBold : Bool
  consoleUnderline : Bool
  interfaceBold : Bool
  interfaceUnderline : Bool
  marginRelease : Bool
  alignment : Option Alignment
  groupCounter : Nat
  lineCounter : Nat
  correction : Option Correction
  lastRefusal : Option Reason
  deriving DecidableEq, Repr

/-- The grant arbiter (R173 to R183). A grant of none is NONE. timer holds the seconds the running timer was started with, none
when STOPPED. flushPending: the implied RETURN FLUSH of an interface reset is not yet placed (R182). headWaiting: the holder's
head command has been tried and is waiting (R172, R173). -/
structure Arbiter where
  grant : Option Port
  remoteHold : Bool
  holdTime : Nat
  timer : Option Nat
  takeover : Bool
  flushPending : Bool
  headWaiting : Bool
  deriving DecidableEq, Repr

/-! ## Strike queue and mechanism sequencer (R67 to R96) -/

/-- R68: a PRINT entry. -/
structure PrintStrike where
  code : Byte
  role : Role
  pos : Nat
  vpos : Nat
  group : Nat
  pitch : Pitch
  port : Port
  deriving DecidableEq, Repr

/-- R68: a LIFT entry. -/
structure LiftStrike where
  ref : Option Nat
  code : Byte
  group : Nat
  pos : Nat
  petal : Nat
  wheel : Nat
  impression : Nat
  port : Port
  deriving DecidableEq, Repr

/-- R68: the report kind of a MARK. -/
inductive MarkKind where
  | done
  | lineDone (v : Nat)
  deriving DecidableEq, Repr

/-- R68: the five kinds of strike queue entry. -/
inductive SEntry where
  | print (p : PrintStrike)
  | lift (l : LiftStrike)
  | feed (amount : Int) (result : Nat)
  | move (target : Nat)
  | mark (port : Port) (tag : Byte) (kind : MarkKind)
  deriving DecidableEq, Repr

/-- R74 to R87: the motion the sequencer has in progress. wheel counts the index pulses seen (R83); the rehome motions belong to
the retry of R82; the home motions are steps 1 and 2 of a homing. -/
inductive Motion where
  | rest
  | carriage
  | rehomeCarriage
  | wheel (pulses : Nat)
  | rehomeWheel
  | feed
  | homeCarriage
  | homeWheel
  deriving DecidableEq, Repr

/-- R67: the entry in flight: moving unless stopped (R84). petal, impression and wheel are bound at its begin (R11, R14, R99);
clamped is R78's test at its begin; step is the axis of the step reached; discard is set by a RESET ENGINE (R96). -/
structure InFlight where
  entry : SEntry
  stopped : Bool
  step : Axis
  petal : Nat
  impression : Nat
  wheel : Nat
  clamped : Bool
  discard : Bool
  deriving DecidableEq, Repr

/-- The strike queue and the mechanism sequencer. -/
structure Sequencer where
  queue : List SEntry
  inflight : Option InFlight
  motion : Motion
  fault : Bool
  holds : Holds
  mounted : Nat
  carriage : Nat
  petal : Nat
  vpos : Nat
  attempts : Nat
  homingRequest : Bool
  deriving DecidableEq, Repr

/-! ## Correction memory (R97 to R99) -/

/-- R99: a strike record; its slot is the one that holds it. -/
structure StrikeRec where
  ref : Nat
  group : Nat
  role : Role
  pos : Nat
  petal : Nat
  wheel : Nat
  code : Byte
  impression : Nat
  deriving DecidableEq, Repr

/-- R98: a line slot; its recency is its place in the list, oldest first. -/
structure LineSlot where
  vpos : Nat
  truncated : Bool
  records : List StrikeRec
  deriving DecidableEq, Repr

/-! ## Spelling unit (R132 to R152) -/

/-- R136: the eight states of a word. -/
inductive WordState where
  | opened
  | checking
  | known
  | unknown
  | flagged
  | unchecked
  | short
  | accepted
  deriving DecidableEq, Repr

/-- R132: a word of the word table. Its entries are named by their group numbers, which no two entries of the line share (R25);
the first and last of them are its first and last entry. Its length is that of letters. -/
structure WordRec where
  entries : List Nat
  letters : List Byte
  start : Nat
  token : Bool
  complete : Bool
  state : WordState
  checkId : Option Nat
  deriving DecidableEq, Repr

/-- R139: the kind of a check. attached: its word is still in the word table (the word whose checkId is the check's id). -/
inductive CheckKind where
  | lineWord (attached : Bool) (start vpos : Nat) (port : Port)
  | wordCheck (port : Port) (tag : Byte)
  deriving DecidableEq, Repr

/-- R139: a check. -/
structure Check where
  id : Nat
  kind : CheckKind
  letters : List Byte
  discarded : Bool
  deriving DecidableEq, Repr

/-- The spelling unit. The check in progress is the head of the check queue: R140 begins the head as soon as no check is in
progress. -/
structure Spelling where
  words : List WordRec
  checks : List Check
  nextId : Nat
  userWords : List (List Byte)
  rejectWords : List (List Byte)
  mode : SpellMode
  interfaceReports : Bool
  deriving DecidableEq, Repr

/-! ## The whole engine -/

/-- The state of the engine, block by block, and the queue of the commands waiting to be given to it (the model's own field). -/
structure State where
  con : ConsoleLink
  ifl : InterfaceLink
  dlink : DisplayLink
  comp : Composer
  arb : Arbiter
  wheels : List (Option Descriptor)
  seq : Sequencer
  mem : List LineSlot
  spell : Spelling
  disp : Display
  pending : List Instr
  deriving DecidableEq, Repr

/-- An empty report queue with its loss flag, count and urgent-lost flag clear (R189). -/
def ReportQueue.empty : ReportQueue := ⟨[], false, 0, false⟩

/-- The empty hold-reason set. -/
def Holds.none : Holds := ⟨false, false, false, false, false, false, false, false⟩

/-- R73: after power-on the set holds WHEEL UNDEFINED, and here no sensor reason. -/
def Holds.powerOn : Holds := { Holds.none with wheelUndefined := true }

/-- R154: a blank cell. -/
def Cell.blank (cursor : Bool) : Cell := ⟨0x20, cursor, false, false, false, false, false⟩

/-- The composer's power-on column (R48's table, R131, R158). -/
def Composer.powerOn : Composer where
  line := none
  printLine := none
  printPoint := 120
  vpos := 0
  lm := 120
  pendingLm := none
  rm := 1020
  tabs := []
  mode := .direct
  justify := false
  spacing := 2
  impression := .normal
  zone := 0
  smax := 24
  consoleBold := false
  consoleUnderline := false
  interfaceBold := false
  interfaceUnderline := false
  marginRelease := false
  alignment := none
  groupCounter := 1
  lineCounter := 0
  correction := none
  lastRefusal := none

/-- The sequencer's power-on column (R95's table) with the cover closed: homing has started (R86), so its request is clear and
the carriage is being driven to the left stop. -/
def Sequencer.powerOn : Sequencer where
  queue := []
  inflight := none
  motion := .homeCarriage
  fault := false
  holds := Holds.powerOn
  mounted := 0
  carriage := 0
  petal := 0
  vpos := 0
  attempts := 0
  homingRequest := false

/-- R167: the image built at power-on release from the power-on values of every block. -/
def Image.powerOn : Image where
  width := 32
  first := 0
  cells := Cell.blank true :: List.replicate 31 (Cell.blank false)
  status :=
    { mode := .direct, justify := false, spelling := .off, lineOpen := false, grant := none, sequencer := .homing,
      holds := Holds.powerOn, column := 11, unitsToRm := 900, refusal := none, lineCells := 0 }
  generation := 0

/-- R94, R197: the MECH report of the one reason in the power-on set with no sensor reason, WHEEL UNDEFINED: joined, urgent. -/
def Record.powerOnMech : Record := ⟨.mech (.joined .wheelUndefined) Holds.powerOn .homing, 0, true⟩

/-- The engine right after power-on release with every sensor quiet (cover closed, paper present, lever closed, ribbon and tape
not at their ends) and TXREADY low. Log entry 3. -/
def State.reset : State where
  con :=
    { inbound := [], reports := { ReportQueue.empty with records := [Record.powerOnMech] }, frameError := false,
      overrun := false, attnLevel := 1, txn := .none, reply := [] }
  ifl :=
    { inbound := [], reports := ReportQueue.empty, rate := .b9600, format := .n8, earlierFormats := [], framing := false,
      parity := false, overrun := false, framingCount := 0, parityCount := 0, overrunCount := 0, assembly := .idle,
      tx := none, txReady := false, echo := false, inBreak := false }
  dlink := { continuous := none, txn := none }
  comp := Composer.powerOn
  arb :=
    { grant := none, remoteHold := false, holdTime := 10, timer := none, takeover := false, flushPending := false,
      headWaiting := false }
  wheels := List.replicate 8 none
  seq := Sequencer.powerOn
  mem := []
  spell :=
    { words := [], checks := [], nextId := 1, userWords := [], rejectWords := [], mode := .off, interfaceReports := false }
  disp := { image := Image.powerOn, attn := true }
  pending := []

end Sys2Proof.Machine
end

