-- ==== Sys2Proof/Machine/Operands.lean ====
section
/-! DEFINITION. The operand forms of the catalogue (10_console_and_interface_links): the command codes and classes, how many
parameter bytes a command carries, and the queued command its bytes make. Also the byte order of the links: two-byte numbers are
sent high byte first. -/

namespace Sys2Proof.Machine

/-! ## Bytes -/

/-- A number as one byte. -/
def byte (n : Nat) : Byte := BitVec.ofNat 8 n

/-- Layouts: multi-byte numbers are sent high byte first. -/
def word16 (hi lo : Byte) : Nat := hi.toNat * 256 + lo.toNat

/-- A two-byte number, high byte first. -/
def bytes16 (n : Nat) : List Byte := [byte (n / 256), byte n]

/-- A three-byte number, high byte first. -/
def bytes24 (n : Nat) : List Byte := [byte (n / 65536), byte (n / 256), byte n]

/-- A signed number in two bytes (status record, units to RM), two's complement. -/
def signed16 (z : Int) : List Byte := bytes16 (z % 65536).toNat

/-- A Bool as bit n of a byte. -/
def bitAt (b : Bool) (n : Nat) : Nat := if b then 2 ^ n else 0

/-! ## The catalogue -/

/-- R168 and the catalogue: Q, queued; I, immediate from either port; C, immediate and console only. -/
inductive CommandClass where
  | queued
  | either
  | consoleOnly
  deriving DecidableEq, Repr

/-- The command codes of the catalogue: the ASCII codes of its letters. -/
def codeClass (code : Byte) : Option CommandClass :=
  if [0x41, 0x50, 0x51, 0x42, 0x4B, 0x49, 0x4A, 0x46, 0x47, 0x48, 0x4D, 0x4E, 0x4F, 0x43, 0x57, 0x4C, 0x62, 0x67, 0x44, 0x45,
      0x54, 0x53, 0x55, 0x56, 0x58, 0x59, 0x5A, 0x69, 0x6A].contains code then
    some .queued
  else if [0x71, 0x65, 0x66].contains code then
    some .either
  else if [0x70, 0x74, 0x73, 0x78, 0x63, 0x6E, 0x6B, 0x61, 0x75, 0x76, 0x6C, 0x64, 0x6D, 0x77, 0x79, 0x68, 0x6F,
      0x7A].contains code then
    some .consoleOnly
  else none

/-- How many parameter bytes a command's parameters are, in so far as those already read tell (R184, R191): for WORD CHECK 1 + L,
for the word lists 2 + L, for WHEEL MAP 3 + 2k, each with its length parameter used as it stands; the count up to that parameter
while it has not been read. -/
def paramsNeeded (code : Byte) (got : List Byte) : Nat :=
  match code with
  | 0x71 => match got with
    | l :: _ => 1 + l.toNat
    | _ => 1
  | 0x75 | 0x76 => match got with
    | _ :: l :: _ => 2 + l.toNat
    | _ => 2
  | 0x6D => match got with
    | _ :: _ :: k :: _ => 3 + 2 * k.toNat
    | _ => 3
  | 0x64 | 0x54 => 3
  | 0x44 | 0x45 | 0x66 => 2
  | 0x41 | 0x4B | 0x46 | 0x47 | 0x48 | 0x62 | 0x53 | 0x55 | 0x56 | 0x58 | 0x59 | 0x5A | 0x69 | 0x6A | 0x65 | 0x61 | 0x6C | 0x77
  | 0x79 | 0x68 | 0x6F => 1
  | _ => 0

/-- R184, second test: the frame's parameter count matches the command's. A frame too short to hold the parameter that gives the
count does not match. -/
def paramsMatch (code : Byte) (params : List Byte) : Bool := params.length == paramsNeeded code params

/-- The queued command that a code and its parameters name; none for any other code or count. -/
def parseQueued (code : Byte) (params : List Byte) : Option QCmd :=
  match code, params with
  | 0x41, [c] => some (.char c)
  | 0x50, [] => some .space
  | 0x51, [] => some .tab
  | 0x42, [] => some .backspace
  | 0x4B, [d] => some (.micro d.toNat)
  | 0x49, [] => some .indexDown
  | 0x4A, [] => some .reverseIndex
  | 0x46, [x] => some (.ret x.toNat)
  | 0x47, [x] => some (.bold x.toNat)
  | 0x48, [x] => some (.underline x.toNat)
  | 0x4D, [] => some .marginRelease
  | 0x4E, [] => some .center
  | 0x4F, [] => some .alignRight
  | 0x43, [] => some .correct
  | 0x57, [] => some .wordCorrect
  | 0x4C, [] => some .lineCorrect
  | 0x62, [c] => some (.liftCharacter c)
  | 0x67, [] => some .relocate
  | 0x44, [h, l] => some (.leftMargin (word16 h l))
  | 0x45, [h, l] => some (.rightMargin (word16 h l))
  | 0x54, [s, h, l] => some (.tabStop s.toNat (word16 h l))
  | 0x53, [n] => some (.spacing n.toNat)
  | 0x55, [n] => some (.impression n.toNat)
  | 0x56, [n] => some (.autoReturnZone n.toNat)
  | 0x58, [n] => some (.stretchLimit n.toNat)
  | 0x59, [n] => some (.justify n.toNat)
  | 0x5A, [n] => some (.mode n.toNat)
  | 0x69, [n] => some (.spellMode n.toNat)
  | 0x6A, [n] => some (.spellReports n.toNat)
  | _, _ => none

/-- The catalogue code of a queued command, as its REFUSED and ECHO reports carry it. -/
def commandCode : QCmd → Byte
  | .char _ => 0x41
  | .space => 0x50
  | .tab => 0x51
  | .backspace => 0x42
  | .micro _ => 0x4B
  | .indexDown => 0x49
  | .reverseIndex => 0x4A
  | .ret _ => 0x46
  | .bold _ => 0x47
  | .underline _ => 0x48
  | .marginRelease => 0x4D
  | .center => 0x4E
  | .alignRight => 0x4F
  | .correct => 0x43
  | .wordCorrect => 0x57
  | .lineCorrect => 0x4C
  | .liftCharacter _ => 0x62
  | .relocate => 0x67
  | .leftMargin _ => 0x44
  | .rightMargin _ => 0x45
  | .tabStop _ _ => 0x54
  | .spacing _ => 0x53
  | .impression _ => 0x55
  | .autoReturnZone _ => 0x56
  | .stretchLimit _ => 0x58
  | .justify _ => 0x59
  | .mode _ => 0x5A
  | .spellMode _ => 0x69
  | .spellReports _ => 0x6A

/-- R190: is the format one of the two 7-bit formats? -/
def LineFormat.seven : LineFormat → Bool
  | .e7 | .o7 => true
  | _ => false

/-- R190: the format code 0 to 4. -/
def LineFormat.code : LineFormat → Nat
  | .n8 => 0
  | .e8 => 1
  | .o8 => 2
  | .e7 => 3
  | .o7 => 4

/-- R190: the format a code names. -/
def formatOfCode : Nat → Option LineFormat
  | 0 => some .n8
  | 1 => some .e8
  | 2 => some .o8
  | 3 => some .e7
  | 4 => some .o7
  | _ => none

/-- R190: the rate code 0 to 5. -/
def Rate.code : Rate → Nat
  | .b1200 => 0
  | .b2400 => 1
  | .b4800 => 2
  | .b9600 => 3
  | .b19200 => 4
  | .b38400 => 5

/-- R190: the rate a code names. -/
def rateOfCode : Nat → Option Rate
  | 0 => some .b1200
  | 1 => some .b2400
  | 2 => some .b4800
  | 3 => some .b9600
  | 4 => some .b19200
  | 5 => some .b38400
  | _ => none

/-- R190: a byte as the two split characters of a 7-bit format. -/
def splitByte (b : Byte) : List Byte := [byte (0x30 + b.toNat / 16), byte (0x30 + b.toNat % 16)]

end Sys2Proof.Machine
end

