-- ==== Sys2Proof/Machine/Flags.lean ====
section
/-! DEFINITION. The coded bytes the controllers see: reason codes, hold reasons and sequencer states, report records and frames,
the STATUS data and the display status record, window cells. -/

namespace Sys2Proof.Machine

/-- The reason codes 1 to 20 of the links chapter's table. -/
def Reason.code : Reason → Nat
  | .badParameter => 1
  | .unknownCommand => 2
  | .notAllowed => 3
  | .busy => 4
  | .lineFull => 5
  | .margin => 6
  | .notOnWheel => 7
  | .noTabStop => 8
  | .lineOpen => 9
  | .badMargin => 10
  | .marginConflict => 11
  | .tabsFull => 12
  | .notInMode => 13
  | .notRemembered => 14
  | .spellingHold => 15
  | .slotEmpty => 16
  | .badWord => 17
  | .listFull => 18
  | .inFault => 19
  | .noFault => 20

/-- R73's table order: bit 0 COVER OPEN to bit 7 PAPER OUT. -/
def Hold.bit : Hold → Nat
  | .coverOpen => 0
  | .wheelAbsent => 1
  | .wheelUndefined => 2
  | .pitchChanged => 3
  | .paperReleased => 4
  | .ribbonOut => 5
  | .tapeOut => 6
  | .paperOut => 7

/-- Is a reason in the set? -/
def Holds.get (h : Holds) : Hold → Bool
  | .coverOpen => h.coverOpen
  | .wheelAbsent => h.wheelAbsent
  | .wheelUndefined => h.wheelUndefined
  | .pitchChanged => h.pitchChanged
  | .paperReleased => h.paperReleased
  | .ribbonOut => h.ribbonOut
  | .tapeOut => h.tapeOut
  | .paperOut => h.paperOut

/-- The set with one reason put in or taken out. -/
def Holds.put (h : Holds) (r : Hold) (b : Bool) : Holds :=
  match r with
  | .coverOpen => { h with coverOpen := b }
  | .wheelAbsent => { h with wheelAbsent := b }
  | .wheelUndefined => { h with wheelUndefined := b }
  | .pitchChanged => { h with pitchChanged := b }
  | .paperReleased => { h with paperReleased := b }
  | .ribbonOut => { h with ribbonOut := b }
  | .tapeOut => { h with tapeOut := b }
  | .paperOut => { h with paperOut := b }

/-- Hold reasons as one byte (status record byte 3, STATUS byte 15). -/
def Holds.toNat (h : Holds) : Nat :=
  bitAt h.coverOpen 0 + bitAt h.wheelAbsent 1 + bitAt h.wheelUndefined 2 + bitAt h.pitchChanged 3 + bitAt h.paperReleased 4
    + bitAt h.ribbonOut 5 + bitAt h.tapeOut 6 + bitAt h.paperOut 7

/-- R73: does the set hold an entry of this kind? COVER OPEN, WHEEL ABSENT, WHEEL UNDEFINED, PITCH CHANGED and PAPER RELEASED hold
all entries; RIBBON OUT a PRINT, TAPE OUT a LIFT, PAPER OUT a FEED with a positive amount. -/
def Holds.holds (h : Holds) (e : SEntry) : Bool :=
  h.coverOpen || h.wheelAbsent || h.wheelUndefined || h.pitchChanged || h.paperReleased ||
    (match e with
      | .print _ => h.ribbonOut
      | .lift _ => h.tapeOut
      | .feed amount _ => h.paperOut && decide (0 < amount)
      | _ => false)

/-- Status record byte 2: 0 IDLE, 1 RUNNING, 2 BLOCKED, 3 HOMING, 4 FAULT. -/
def SeqState.code : SeqState → Nat
  | .idle => 0
  | .running => 1
  | .blocked => 2
  | .homing => 3
  | .fault => 4

/-- The axis codes of MECH: 0 CARRIAGE, 1 WHEEL, 2 FEED. -/
def axisCode : Axis → Nat
  | .carriage => 0
  | .wheel => 1
  | .feed => 2

/-- The role codes of UNPRINTED; WHOLE ENTRY is the report of R61 for an UNPRINTABLE entry. -/
def roleCode : Option Role → Nat
  | some .base => 0
  | some .boldSecond => 1
  | some .underscore => 2
  | none => 3

/-- The strike queue's five kinds in table order, PRINT being 0 and MARK 4. -/
def SEntry.kindCode : SEntry → Nat
  | .print _ => 0
  | .lift _ => 1
  | .feed _ _ => 2
  | .move _ => 3
  | .mark _ _ _ => 4

/-- CHECK RESULT's result codes. -/
def CheckResult.code : CheckResult → Nat
  | .known => 0
  | .unknown => 1
  | .flagged => 2

/-- CHECK RESULT's basis codes. -/
def Basis.code : Basis → Nat
  | .rejectList => 0
  | .userList => 1
  | .signature => 2

/-- INTERFACE ERROR: a flag by its bit number. -/
def LinkError.code : LinkError → Nat
  | .framing => 0
  | .parity => 1
  | .overrun => 2

/-- The mode codes. -/
def Mode.code : Mode → Nat
  | .direct => 0
  | .line => 1

/-- The spelling mode codes. -/
def SpellMode.code : SpellMode → Nat
  | .off => 0
  | .alert => 1
  | .hold => 2

/-- The report kind codes 0x01 to 0x14. -/
def Report.kindCode : Report → Nat
  | .done => 0x01
  | .lineDone _ => 0x02
  | .refused _ _ _ => 0x03
  | .spellAlert _ _ _ _ => 0x04
  | .checkResult _ _ _ => 0x05
  | .userWordAdded _ => 0x06
  | .mech _ _ _ => 0x07
  | .wheelChanged _ _ => 0x08
  | .unprinted _ _ _ _ => 0x09
  | .looseLine _ _ _ _ => 0x0A
  | .alignIgnored _ _ _ => 0x0B
  | .partialLift _ _ _ _ => 0x0C
  | .wheelMismatch _ _ _ _ => 0x0D
  | .liftLost _ _ => 0x0E
  | .grantTaken _ _ => 0x0F
  | .echo _ _ => 0x10
  | .interfaceReset _ _ => 0x11
  | .interfaceError _ _ _ _ _ _ _ => 0x12
  | .engineReset => 0x13
  | .lost _ => 0x14

/-- The parameter bytes of the MECH report: event, reason bit or axis, hold set, state, entry kind, group, position. -/
def mechParams (event : MechEvent) (holds : Holds) (state : SeqState) : List Byte :=
  match event with
  | .joined h => [0, byte h.bit, byte holds.toNat, byte state.code, 0xFF] ++ bytes16 0 ++ bytes16 0xFFFF
  | .left h => [1, byte h.bit, byte holds.toNat, byte state.code, 0xFF] ++ bytes16 0 ++ bytes16 0xFFFF
  | .fault axis kind gp =>
    [2, byte (axisCode axis), byte holds.toNat, byte state.code, byte (kind.getD 0xFF)]
      ++ bytes16 ((gp.map Prod.fst).getD 0) ++ bytes16 ((gp.map Prod.snd).getD 0xFFFF)

/-- The parameter bytes of a REFUSED report. -/
def refusedParams (r : Reason) (command : Byte) : RefusalDetail → List Byte
  | .plain => [byte r.code, command]
  | .line v key => [byte r.code, command] ++ bytes16 v ++ bytes16 key
  | .typingCode c => [byte r.code, command, c]

/-- The parameter bytes of each report kind (the report table). PARTIAL's count of short targets is one byte, modulo 256 (log entry
47). -/
def Report.params : Report → List Byte
  | .done => []
  | .lineDone v => bytes16 v
  | .refused r c d => refusedParams r c d
  | .spellAlert letters start v flagged =>
    [byte (letters.length % 32 + bitAt flagged 7)] ++ bytes24 (start * 1024 + v) ++ letters
  | .checkResult letters result basis => [byte result.code, byte basis.code, byte letters.length] ++ letters
  | .userWordAdded letters => [byte letters.length] ++ letters
  | .mech event holds state => mechParams event holds state
  | .wheelChanged old new => [byte old, byte new]
  | .unprinted group pos code role => bytes16 group ++ bytes16 pos ++ [code, byte (roleCode role)]
  | .looseLine v cause e g =>
    bytes16 v ++ [match cause with | .stretch => 0 | .brokenSpan => 1] ++ bytes16 e ++ [byte g]
  | .alignIgnored v request cause =>
    bytes16 v ++ [match request with | .centre => 0 | .right => 1] ++ [match cause with | .tab => 0 | .marginRelease => 1]
  | .partialLift v placed shorts key => bytes16 v ++ bytes16 placed ++ [byte shorts] ++ bytes16 key
  | .wheelMismatch group pos lw mw => bytes16 group ++ bytes16 pos ++ [byte lw, byte mw]
  | .liftLost group pos => bytes16 group ++ bytes16 pos
  | .grantTaken v mode => bytes16 v ++ [byte mode.code]
  | .echo command arg => command :: arg.toList
  | .interfaceReset cause effect =>
    [match cause with | .brk => 0 | .sequence => 1] ++
      [match effect with | .none => 0 | .flushed => 1 | .discarded => 2]
  | .interfaceError which f p o fc pc oc =>
    [byte which.code, byte (bitAt f 0 + bitAt p 1 + bitAt o 2), byte fc, byte pc, byte oc]
  | .engineReset => []
  | .lost n => [byte n]

/-- A report record in a PEEK or TAKE reply: kind, tag, flags (bit 0 urgent), parameter length, parameters. -/
def Record.bytes (r : Record) : List Byte :=
  [byte r.body.kindCode, r.tag, byte (bitAt r.urgent 0), byte r.body.params.length] ++ r.body.params

/-- R195: an interface report frame: the lead byte 0x1E, then kind, tag, parameter length and parameters, split in a 7-bit
format. -/
def Record.frame (r : Record) (f : LineFormat) : List Byte :=
  let rest := [byte r.body.kindCode, r.tag, byte r.body.params.length] ++ r.body.params
  0x1E :: (if f.seven then rest.flatMap splitByte else rest)

/-- A window cell: the code, then the attribute byte. -/
def Cell.bytes (c : Cell) : List Byte :=
  [c.code, byte (bitAt c.cursor 0 + bitAt c.bold 1 + bitAt c.underline 2 + bitAt c.marker 3 + bitAt c.pending 4
    + bitAt c.unprintable 5)]

/-- The grant's code in the status record: 0 NONE, 1 CONSOLE, 2 REMOTE. -/
def grantCode : Option Port → Nat
  | none => 0
  | some .console => 1
  | some .interface => 2

/-- The 11 bytes of the display status record. -/
def Image.statusBytes (i : Image) : List Byte :=
  [byte i.generation,
    byte (i.status.mode.code + bitAt i.status.justify 1 + 4 * i.status.spelling.code + 16 * grantCode i.status.grant
      + bitAt i.status.lineOpen 6),
    byte i.status.sequencer.code, byte i.status.holds.toNat, byte i.status.column]
    ++ signed16 i.status.unitsToRm
    ++ [byte ((i.status.refusal.map Reason.code).getD 0), byte i.width, byte i.first, byte i.status.lineCells]

end Sys2Proof.Machine
end

