-- ==== Sys2Proof/Machine/Wheels.lean ====
section
/-! DEFINITION. The wheel table and its arithmetic (R1 to R20): lookups, escapement, impression, strike expansion, rotation, and
what WHEEL DEFINE and WHEEL MAP write. -/

namespace Sys2Proof.Machine

/-! ## Lookups (R10, R11) -/

/-- The descriptor that holds a wheel code, if a slot does. -/
def findDescriptor (wheels : List (Option Descriptor)) (code : Nat) : Option Descriptor :=
  wheels.findSome? fun o => o.bind fun d => if d.code = code then some d else none

/-- The slot whose descriptor holds a wheel code. -/
def slotOfCode (wheels : List (Option Descriptor)) (code : Nat) : Option Nat :=
  wheels.findIdx? fun o => o.any fun d => d.code == code

/-- R2: the petal on which a typing code stands. -/
def Descriptor.petalOf (d : Descriptor) (c : Byte) : Option Nat := d.petals.findIdx? fun p => p.code == some c

/-- R2: is the code on the wheel? -/
def Descriptor.onWheel (d : Descriptor) (c : Byte) : Bool := (d.petalOf c).isSome

/-- The petal record at a petal number. -/
def Descriptor.petalAt (d : Descriptor) (n : Nat) : PetalRec := d.petals.getD n ⟨none, 3, 2⟩

/-- R10: the composing descriptor: the descriptor of the mounted wheel code at this moment, if there is one. -/
def State.descriptor (s : State) : Option Descriptor := findDescriptor s.wheels s.seq.mounted

/-- R10: is a code on the composing descriptor? With none, no code is. -/
def onDescriptor (d : Option Descriptor) (c : Byte) : Bool := d.any fun d => d.onWheel c

/-- R13: the composed pitch class; P12 with no composing descriptor. -/
def composedPitch (d : Option Descriptor) : Pitch := (d.map Descriptor.pitch).getD .p12

/-! ## Escapement (R12) -/

/-- R2's table: the character width of a fixed pitch class, and the PS space width. -/
def Pitch.units : Pitch → Nat
  | .p10 => 12
  | .p12 => 10
  | .p15 => 8
  | .ps => 8

/-- R2's table: PS width classes 1 to 5 are 6, 8, 10, 12 and 14 units. -/
def classUnits (widthClass : Nat) : Nat := 4 + 2 * widthClass

/-- R12: the escapement of a typing code on a descriptor; R10: 10 units with none. -/
def escapement (d : Option Descriptor) (c : Byte) : Nat :=
  match d with
  | none => 10
  | some d =>
    if c = 0x20 then d.pitch.units
    else match d.pitch with
      | .ps => match d.petalOf c with
        | some n => classUnits (d.petalAt n).widthClass
        | none => 8
      | p => p.units

/-! ## Impression (R14, R15) -/

/-- R14: a petal's impression class shifted by the setting and clamped to 1 to 4. -/
def printImpression (setting : Impression) (cls : Nat) : Nat :=
  match setting with
  | .light => max 1 (min 4 (cls - 1))
  | .normal => max 1 (min 4 cls)
  | .heavy => max 1 (min 4 (cls + 1))

/-- R15: one class above the impression the removed strike used, clamped to 4. -/
def liftImpression (used : Nat) : Nat := min 4 (used + 1)

/-! ## Strike expansion (R16 to R18) -/

/-- R17: the positions of the underscores of an entry at p of width w, with underscore width uw. -/
def underscorePositions (p w uw : Nat) : List Nat :=
  if w < uw then [p]
  else (List.range ((w + uw - 1) / uw)).map fun k => p + min (k * uw) (w - uw)

/-- A group as R16 to R18 build it: its strikes in order, and whether underscores were asked for and lost. -/
structure Built where
  strikes : List (Role × Byte × Nat)
  lost : Bool
  deriving DecidableEq, Repr

/-- R16 to R18: the strikes of one entry. printable is false for an UNPRINTABLE entry, which gives none of any role; underlined, with
the underscore code not on the descriptor, it loses none that it would have had (log entry 43). -/
def buildGroup (d : Option Descriptor) (kind : EntryKind) (printable : Bool) (code : Byte) (bold underline : Bool) (p w : Nat) :
    Built :=
  match kind, printable with
  | .tab, _ => ⟨[], false⟩
  | _, false => ⟨[], false⟩
  | k, true =>
    let base := match k with
      | .char => (Role.base, code, p) :: (if bold then [(Role.boldSecond, code, p + 1)] else [])
      | _ => []
    let unders :=
      if underline && onDescriptor d 0x5F then
        (underscorePositions p w (escapement d 0x5F)).map fun q => (Role.underscore, (0x5F : Byte), q)
      else []
    ⟨base ++ unders, underline && !(onDescriptor d 0x5F)⟩

/-- R30, R61: the PRINT entries of a built group. -/
def printEntries (b : Built) (vpos group : Nat) (pitch : Pitch) (port : Port) : List SEntry :=
  b.strikes.map fun (role, code, pos) => .print { code, role, pos, vpos, group, pitch, port }

/-! ## Rotation (R19, R20) -/

/-- R19: the distance of a rotation from petal a to petal b, modulo 100. -/
def rotationDistance (a b : Nat) : Nat := (b + 100 - a % 100) % 100

/-- R20: does a rotation from a to b arrive at petal 0 on its way? -/
def crossesIndex (a b : Nat) : Bool :=
  let d := rotationDistance a b
  if d = 0 then false
  else if d ≤ 50 then decide (100 ≤ a + d)
  else decide (1 ≤ a) && decide (a ≤ 100 - d)

/-! ## WHEEL DEFINE and WHEEL MAP (R3 to R7) -/

/-- The pitch class of a WHEEL DEFINE parameter. -/
def pitchOfCode : Nat → Option Pitch
  | 0 => some .p10
  | 1 => some .p12
  | 2 => some .p15
  | 3 => some .ps
  | _ => none

/-- R3: a descriptor as WHEEL DEFINE writes it: every petal none, width class 3, impression class 2. -/
def clearedDescriptor (code : Nat) (pitch : Pitch) : Descriptor := ⟨code, pitch, List.replicate 100 ⟨none, 3, 2⟩⟩

/-- R3, R4: the target slot of a WHEEL DEFINE: the slot that already holds the code, else the slot named. -/
def defineTarget (wheels : List (Option Descriptor)) (slot code : Nat) : Nat := (slotOfCode wheels code).getD slot

/-- A petal record as WHEEL MAP carries it: the typing code; width class in bits 0 to 2, impression class in bits 3 to 5, bit 7
none. Bit 6, to which the layout gives no meaning, is ignored (log entry 52). -/
def petalOfBytes (c b : Byte) : PetalRec :=
  ⟨if b.getLsbD 7 then none else some c, b.toNat % 8, b.toNat / 8 % 8⟩

/-- The petal records of a WHEEL MAP's parameters after the third. -/
def petalsOfBytes : List Byte → List PetalRec
  | c :: b :: rest => petalOfBytes c b :: petalsOfBytes rest
  | _ => []

/-- R30, R6: a code in 0x00 to 0x1F or 0x7F to 0x9F. -/
def controlCode (c : Byte) : Bool := decide (c.toNat ≤ 0x1F) || (decide (0x7F ≤ c.toNat) && decide (c.toNat ≤ 0x9F))

/-- R6: may a petal record be written? -/
def PetalRec.valid (p : PetalRec) : Bool :=
  decide (1 ≤ p.widthClass) && decide (p.widthClass ≤ 5) && decide (1 ≤ p.impression) && decide (p.impression ≤ 4) &&
    (match p.code with
      | none => true
      | some c => c != 0x20 && !(controlCode c))

/-- R7: one petal record written: its code leaves any other petal it stood on, whose classes are kept. -/
def writePetal (petals : List PetalRec) (n : Nat) (r : PetalRec) : List PetalRec :=
  (petals.map fun p => if r.code.isSome && p.code == r.code then { p with code := none } else p).set n r

/-- R6: the records of a WHEEL MAP written to petals f, f + 1 and up, in that order. -/
def writePetals : List PetalRec → Nat → List PetalRec → List PetalRec
  | petals, _, [] => petals
  | petals, f, r :: rest => writePetals (writePetal petals f r) (f + 1) rest

/-- Is an entry a PRINT or a LIFT? -/
def SEntry.strikes : SEntry → Bool
  | .print _ | .lift _ => true
  | _ => false

/-- R5: is a PRINT or LIFT entry queued or in flight? -/
def strikesOutstanding (s : State) : Bool :=
  s.seq.queue.any SEntry.strikes || s.seq.inflight.any fun f => f.entry.strikes

/-- R5: is a slot's descriptor the mounted wheel's, with a strike outstanding? -/
def wheelBusy (s : State) (slot : Nat) : Bool :=
  ((s.wheels.getD slot none).any fun d => d.code == s.seq.mounted) && strikesOutstanding s

end Sys2Proof.Machine
end

