-- ==== Sys2Proof/Machine/Ops.lean ====
section
/-! DEFINITION. Operations several blocks share: queueing a report (R189, R195), the hold-reason set and its MECH reports (R94),
the sequencer's state (R71), the strike queue's places (R67), the grant decision (R173), group numbers (R25). -/

namespace Sys2Proof.Machine

/-! ## Reports -/

/-- R189: one lost report counted. -/
def ReportQueue.countLost (q : ReportQueue) (urgent : Bool) : ReportQueue :=
  { q with loss := true, lost := min 255 (q.lost + 1), urgentLost := q.urgentLost || urgent }

/-- R189: the LOST record that stands for the reports counted. -/
def ReportQueue.lostRecord (q : ReportQueue) : Record := ⟨.lost q.lost, 0, q.urgentLost⟩

/-- R189: a report arrives for a queue: it joins, or is discarded and counted, or a LOST record is put ahead of it or in its
place. -/
def ReportQueue.add (q : ReportQueue) (r : Record) : ReportQueue :=
  if q.loss then
    if q.records.length + 2 ≤ Config.reportPlaces then ⟨q.records ++ [q.lostRecord, r], false, 0, false⟩
    else if q.records.length + 1 ≤ Config.reportPlaces then
      ⟨q.records ++ [(q.countLost r.urgent).lostRecord], false, 0, false⟩
    else q.countLost r.urgent
  else if q.records.length < Config.reportPlaces then { q with records := q.records ++ [r] }
  else { q with loss := true, lost := 1, urgentLost := r.urgent }

/-- R195: the transmitter's test: idle, TXREADY asserted and a record waiting begin a frame for the head record. -/
def InterfaceLink.beginFrame (l : InterfaceLink) : InterfaceLink :=
  match l.tx, l.txReady, l.reports.records with
  | none, true, r :: _ => { l with tx := some ⟨r.frame l.format, true⟩ }
  | _, _, _ => l

/-- R187: is a report queued for a port urgent there? The kinds that are urgent are so on the console's queue. -/
def queueRecord (s : State) (p : Port) (r : Record) : State :=
  match p with
  | .console => { s with con := { s.con with reports := s.con.reports.add r } }
  | .interface => { s with ifl := { s.ifl with reports := s.ifl.reports.add r }.beginFrame }

/-- A report that is not urgent. -/
def report (s : State) (p : Port) (tag : Byte) (body : Report) : State := queueRecord s p ⟨body, tag, false⟩

/-- R187: the console ATTN line: high while the queue holds at least the level's count of records, or an urgent one. -/
def ConsoleLink.attn (c : ConsoleLink) : Bool :=
  decide (c.attnLevel ≤ c.reports.records.length) || c.reports.records.any Record.urgent

/-- R170: the console READY line. -/
def ConsoleLink.ready (c : ConsoleLink) : Bool := decide (c.inbound.length < Config.consolePlaces)

/-- R171: the interface READY line: 5 or more places free. -/
def InterfaceLink.ready (l : InterfaceLink) : Bool := decide (l.inbound.length + 5 ≤ Config.interfacePlaces)

/-! ## The sequencer's state and holds -/

/-- R71: HOMING while a homing is in progress. -/
def Sequencer.homing (q : Sequencer) : Bool := q.motion == .homeCarriage || q.motion == .homeWheel

/-- R67: is the entry in flight moving? -/
def Sequencer.moving (q : Sequencer) : Bool := q.inflight.any fun f => !f.stopped

/-- R72: the entry the begin test is made on: the stopped entry in flight, else the head of the queue. -/
def Sequencer.candidate (q : Sequencer) : Option SEntry :=
  match q.inflight with
  | some f => some f.entry
  | none => q.queue.head?

/-- R71: the state of the sequencer. -/
def Sequencer.state (q : Sequencer) : SeqState :=
  if q.fault then .fault
  else if q.homing then .homing
  else if q.moving then .running
  else if q.homingRequest && q.holds.coverOpen then .blocked
  else match q.candidate with
    | some e => if q.holds.holds e then .blocked else .idle
    | none => if q.holds = Holds.none then .idle else .blocked

/-- R94: the sequencer state after a change of the hold-reason set: R71's, where a homing or an entry that the change lets start
at the same event (R86, R72) counts as started, also an entry that completes, is skipped or is dropped at its begin. Log entry 8. -/
def Sequencer.stateAfterChange (q : Sequencer) : SeqState :=
  if q.fault then .fault
  else if q.homing then .homing
  else if q.moving then .running
  else if q.homingRequest then (if q.holds.coverOpen then .blocked else .homing)
  else match q.candidate with
    | some e => if q.holds.holds e then .blocked else .running
    | none => if q.holds = Holds.none then .idle else .blocked

/-- R94: a reason joins the hold-reason set; an urgent MECH report follows. Nothing happens when it is there already. -/
def joinHold (h : Hold) (s : State) : State :=
  if s.seq.holds.get h then s
  else
    let s' := { s with seq := { s.seq with holds := s.seq.holds.put h true } }
    queueRecord s' .console ⟨.mech (.joined h) s'.seq.holds s'.seq.stateAfterChange, 0, true⟩

/-- R94: a reason leaves the hold-reason set; a MECH report that carries the state x follows, not urgent. Nothing happens when it is
not there. -/
def leaveHoldAs (h : Hold) (x : SeqState) (s : State) : State :=
  if s.seq.holds.get h then
    let s' := { s with seq := { s.seq with holds := s.seq.holds.put h false } }
    queueRecord s' .console ⟨.mech (.left h) s'.seq.holds x, 0, false⟩
  else s

/-- R94: a reason leaves the hold-reason set, with the state after that change in its MECH report. -/
def leaveHold (h : Hold) (s : State) : State :=
  leaveHoldAs h (Sequencer.stateAfterChange { s.seq with holds := s.seq.holds.put h false }) s

/-- R89: was a queued PRINT, or a stopped PRINT in flight, composed under another pitch class? -/
def pitchDiffers (d : Descriptor) (s : State) : Bool :=
  let differs (e : SEntry) : Bool := match e with
    | .print p => p.pitch != d.pitch
    | _ => false
  s.seq.queue.any differs || s.seq.inflight.any fun f => f.stopped && differs f.entry

/-- R89: the pitch test: PITCH CHANGED joins when a PRINT was composed under another pitch class, and leaves when none was. -/
def pitchTest (d : Descriptor) (s : State) : State :=
  if pitchDiffers d s then joinHold .pitchChanged s else leaveHold .pitchChanged s

/-! ## The strike queue -/

/-- R67: free places of the strike queue. -/
def freePlaces (s : State) : Nat := Config.strikePlaces - s.seq.queue.length

/-- R67: entries placed together at the tail. -/
def place (es : List SEntry) (s : State) : State := { s with seq := { s.seq with queue := s.seq.queue ++ es } }

/-- Is an entry a PRINT of a group? -/
def SEntry.isPrintOf (g : Nat) : SEntry → Bool
  | .print p => p.group == g
  | _ => false

/-- Is an entry a LIFT of a group? -/
def SEntry.isLiftOf (g : Nat) : SEntry → Bool
  | .lift l => l.group == g
  | _ => false

/-- Is an entry a PRINT or LIFT of a group? -/
def SEntry.ofGroup (g : Nat) (e : SEntry) : Bool := e.isPrintOf g || e.isLiftOf g

/-- Is the entry in flight a PRINT of a group? -/
def printInFlight (s : State) (g : Nat) : Bool := s.seq.inflight.any fun f => f.entry.isPrintOf g

/-- R69: withdrawal of a group: every PRINT and LIFT of it leaves the queue; the entry in flight is not touched. -/
def withdraw (g : Nat) (s : State) : State :=
  { s with seq := { s.seq with queue := s.seq.queue.filter fun e => !(e.ofGroup g) } }

/-! ## Group numbers (R25) -/

/-- R25: stepped on by one, from 65535 to 1. -/
def nextGroup (g : Nat) : Nat := if g ≥ 65535 then 1 else g + 1

/-- R25: is a number carried by a strike queued or in flight, a record, or an entry of either line? -/
def groupInUse (s : State) (g : Nat) : Bool :=
  s.seq.queue.any (SEntry.ofGroup g) || s.seq.inflight.any (fun f => f.entry.ofGroup g) ||
    s.mem.any (fun sl => sl.records.any fun r => r.group == g) ||
    s.comp.line.any (fun l => l.entries.any fun e => e.group == some g) ||
    s.comp.printLine.any (fun l => l.entries.any fun e => e.group == some g)

/-- R25: the first candidate that passes, from a start, within a number of steps. -/
def findGroup (s : State) : Nat → Nat → Nat
  | 0, g => g
  | n + 1, g => if groupInUse s g then findGroup s n (nextGroup g) else g

/-- R25: the number assigned now. -/
def State.freeGroup (s : State) : Nat := findGroup s 65535 s.comp.groupCounter

/-- R25: the counter set one past the number assigned. -/
def State.useGroup (s : State) (g : Nat) : State := { s with comp := { s.comp with groupCounter := nextGroup g } }

/-! ## The grant (R173) -/

/-- The inbound queue of a port. -/
def State.inbound (s : State) : Port → List QItem
  | .console => s.con.inbound
  | .interface => s.ifl.inbound

/-- An inbound queue replaced. -/
def State.setInbound (s : State) (p : Port) (q : List QItem) : State :=
  match p with
  | .console => { s with con := { s.con with inbound := q } }
  | .interface => { s with ifl := { s.ifl with inbound := q } }

/-- R173: the grant is fixed while a line is open, a correction is in progress, a takeover is pending, an implied RETURN FLUSH is
not yet placed, or the holder's head command is waiting. -/
def State.grantFixed (s : State) : Bool :=
  s.comp.line.isSome || s.comp.correction.isSome || s.arb.takeover || s.arb.flushPending || s.arb.headWaiting

/-- R173: the choice at a line boundary. -/
def State.boundaryGrant (s : State) : Option Port :=
  if s.con.inbound ≠ [] then some .console
  else if s.ifl.inbound ≠ [] ∧ s.arb.remoteHold = false then some .interface
  else none

/-- R173: the grant decision. -/
def decideGrant (s : State) : State :=
  if s.grantFixed then s else { s with arb := { s.arb with grant := s.boundaryGrant } }

/-- R170, R171: a queued command joins the tail of its port's queue; R173: a grant decision follows when the queue was empty. The
caller has made the test for a place. -/
def enqueue (p : Port) (it : QItem) (s : State) : State :=
  let s' := s.setInbound p (s.inbound p ++ [it])
  if s.inbound p = [] then decideGrant s' else s'

/-- The head command the composer may try now: the holder's, with no correction in progress, no takeover pending (R177) and no
implied RETURN FLUSH waiting (R38, R182). -/
def State.head (s : State) : Option (Port × QItem) :=
  match s.arb.grant, s.comp.correction, s.arb.takeover, s.arb.flushPending with
  | some p, none, false, false => (s.inbound p).head?.map fun it => (p, it)
  | _, _, _, _ => none

end Sys2Proof.Machine
end

