-- ==== Sys2Proof/Machine/Memory.lean ====
section
/-! DEFINITION. The correction memory (R97 to R109): filing a strike, removing one, clearing, and the lookups. -/

namespace Sys2Proof.Machine

/-- R97: records of all slots together. -/
def recordCount (m : List LineSlot) : Nat := (m.map fun sl => sl.records.length).sum

/-- R109: the slot of a vertical position. -/
def slotAt (m : List LineSlot) (v : Nat) : Option LineSlot := m.find? fun sl => sl.vpos == v

/-- R99: a record is claimed while a LIFT queued or in flight carries its reference. -/
def claimed (s : State) (ref : Nat) : Bool :=
  let carries (e : SEntry) : Bool := match e with
    | .lift l => l.ref == some ref
    | _ => false
  s.seq.queue.any carries || s.seq.inflight.any fun f => carries f.entry

/-- R99: the references in use: of the records held and of the LIFTs queued or in flight. -/
def refsInUse (s : State) : List Nat :=
  (s.mem.flatMap fun sl => sl.records.map StrikeRec.ref) ++
    ((s.seq.queue ++ (s.seq.inflight.map InFlight.entry).toList).filterMap fun e => match e with
      | .lift l => l.ref
      | _ => none)

/-- R99: a reference that no record holds and no LIFT carries: one above the greatest in use. Log entry 13. -/
def freshRef (s : State) : Nat := (refsInUse s).foldl max 0 + 1

/-- R101: a slot for v is made if there is none; the oldest of four is dropped first. -/
def ensureSlot (v : Nat) (m : List LineSlot) : List LineSlot :=
  if m.any fun sl => sl.vpos == v then m
  else (if m.length ≥ Config.memorySlots then m.drop 1 else m) ++ [⟨v, false, []⟩]

/-- R102: room for one record: the oldest slots other than the receiving one are dropped until a place is free. -/
def dropOthers (v : Nat) : Nat → List LineSlot → List LineSlot
  | 0, m => m
  | n + 1, m =>
    if recordCount m < Config.memoryRecords then m
    else match m.findIdx? fun sl => sl.vpos != v with
      | some i => dropOthers v n (m.eraseIdx i)
      | none => m

/-- R102: with the receiving slot alone and no place free, its oldest record is removed and its truncated flag set. -/
def truncateSlot (m : List LineSlot) : List LineSlot :=
  if recordCount m < Config.memoryRecords then m
  else m.map fun sl =>
    { sl with truncated := true, records := sl.records.drop (recordCount m + 1 - Config.memoryRecords) }

/-- R100: a strike record filed for v: its slot found or made, room made, the record appended, and the slot moved to the newest
end. -/
def fileRecord (v : Nat) (r : StrikeRec) (m : List LineSlot) : List LineSlot :=
  let m1 := ensureSlot v m
  let m2 := truncateSlot (dropOthers v m1.length m1)
  match slotAt m2 v with
  | some sl => (m2.filter fun x => x.vpos != v) ++ [{ sl with records := sl.records ++ [r] }]
  | none => m2

/-- R103: the record of a reference, with its group. -/
def recordOfRef (m : List LineSlot) (ref : Nat) : Option StrikeRec :=
  (m.flatMap LineSlot.records).find? fun r => r.ref == ref

/-- R103: the record of a reference removed; slots keep their places, positions and flags. -/
def removeRef (ref : Nat) (m : List LineSlot) : List LineSlot :=
  m.map fun sl => { sl with records := sl.records.filter fun r => r.ref != ref }

/-- R104: the record a LIFT without a reference removes: in the slot at v, of the records not claimed with this position and
typing code, the one made last. -/
def recordUnder (s : State) (v pos : Nat) (code : Byte) : Option StrikeRec :=
  (slotAt s.mem v).bind fun sl =>
    (sl.records.filter fun r => !(claimed s r.ref) && r.pos == pos && r.code == code).getLast?

/-- R105: the memory cleared. -/
def clearMemory (s : State) : State := { s with mem := [] }

/-- R109: the group query: the unclaimed records of group g in the slot at v, in completion order. -/
def groupRecords (s : State) (g v : Nat) : List StrikeRec :=
  match slotAt s.mem v with
  | some sl => sl.records.filter fun r => r.group == g && !(claimed s r.ref)
  | none => []

/-- R109: the truncated flag of the slot at v; clear when no slot holds v. -/
def slotTruncated (s : State) (v : Nat) : Bool := (slotAt s.mem v).any LineSlot.truncated

end Sys2Proof.Machine
end

