-- ==== Sys2Proof/Machine/Spelling.lean ====
section
/-! DEFINITION. The spelling unit (R132 to R152): words of the compose line, the check queue, the decision, the accept commands
and the word lists. -/

namespace Sys2Proof.Machine

/-! ## Words on the line (R133, R134) -/

/-- R133: the classes of an entry for word assembly. -/
inductive CharClass where
  | letter
  | apostrophe
  | hyphen
  | joiner
  | separator
  deriving DecidableEq, Repr

/-- Is a code 'A' to 'Z' or 'a' to 'z'? -/
def isLetter (c : Byte) : Bool :=
  (decide (0x41 ≤ c.toNat) && decide (c.toNat ≤ 0x5A)) || (decide (0x61 ≤ c.toNat) && decide (c.toNat ≤ 0x7A))

/-- R133: the class of an entry, from its kind and code alone. -/
def Entry.charClass (e : Entry) : CharClass :=
  match e.kind with
  | .char =>
    if isLetter e.code then .letter
    else if e.code = 0x27 then .apostrophe
    else if e.code = 0x2D then .hyphen
    else if (decide (0x30 ≤ e.code.toNat) && decide (e.code.toNat ≤ 0x39)) || decide (0xA0 ≤ e.code.toNat) then .joiner
    else .separator
  | _ => .separator

/-- R132: a letter folded to lower case. -/
def foldCase (c : Byte) : Byte := if 0x41 ≤ c.toNat ∧ c.toNat ≤ 0x5A then byte (c.toNat + 0x20) else c

/-- R134: a part of a run, and whether a separator or a hyphen ends it. -/
structure Part where
  entries : List Entry
  ended : Bool
  deriving DecidableEq, Repr

/-- R134: is a CHAR that R133's table calls a separator typed over a letter or a joiner of the part being gathered, as '/' over the 'a'
of "cat"? It is then an overstrike within the word, which R134's example makes a token. Over an apostrophe alone it is a separator.
Log entry 49. -/
def Entry.overstrikes (e : Entry) (cur : List Entry) : Bool :=
  e.kind == .char && e.charClass == .separator &&
    cur.any fun x => x.pos == e.pos && (x.charClass == .letter || x.charClass == .joiner)

/-- R134: the parts of the runs of a list of entries, with LIFTED entries already passed over. cur is the part being gathered. -/
def partsOf : List Entry → List Entry → List Part
  | cur, [] => if cur.isEmpty then [] else [⟨cur, false⟩]
  | cur, e :: rest =>
    if e.overstrikes cur then partsOf (cur ++ [e]) rest
    else match e.charClass with
      | .hyphen | .separator => if cur.isEmpty then partsOf [] rest else ⟨cur, true⟩ :: partsOf [] rest
      | _ => partsOf (cur ++ [e]) rest

/-- R134: apostrophes at a part's start and end dropped. -/
def trimApostrophes (es : List Entry) : List Entry :=
  let front := es.dropWhile fun e => e.charClass == .apostrophe
  (front.reverse.dropWhile fun e => e.charClass == .apostrophe).reverse

/-- R134: a word that holds a joiner, or two entries at one position, is a token. -/
def isToken (es : List Entry) : Bool :=
  es.any (fun e => e.charClass == .joiner) || !(decide ((es.map Entry.pos).Nodup))

/-- A word found in the line, and whether a separator or a hyphen stands after it (R137). -/
structure FoundWord where
  entries : List Entry
  ended : Bool
  deriving DecidableEq, Repr

/-- R134: the words of a line: the trimmed parts that hold a letter. -/
def wordsOf (es : List Entry) : List FoundWord :=
  (partsOf [] (es.filter fun e => e.state != .lifted)).filterMap fun p =>
    let t := trimApostrophes p.entries
    if t.any fun e => e.charClass == .letter then some ⟨t, p.ended⟩ else none

/-- R132: the group numbers that name a word's entries. -/
def FoundWord.groups (w : FoundWord) : List Nat := w.entries.map fun e => e.group.getD 0

/-- R135: a word found, entered as new: OPEN, not complete, no check. -/
def FoundWord.fresh (w : FoundWord) : WordRec where
  entries := w.groups
  letters := w.entries.map fun e => foldCase e.code
  start := (w.entries.head?.map Entry.pos).getD 0
  token := isToken w.entries
  complete := false
  state := .opened
  checkId := none

/-! ## The check queue (R139, R140) -/

/-- R139: the next id, from 255 to 1. -/
def nextCheckId (n : Nat) : Nat := if n ≥ 255 then 1 else n + 1

/-- R139: the first id from a start that no queued check holds. -/
def findCheckId (checks : List Check) : Nat → Nat → Nat
  | 0, id => id
  | n + 1, id => if checks.any fun c => c.id == id then findCheckId checks n (nextCheckId id) else id

/-- R139: a check placed at the tail; its id is the one answered. The caller has made the test for a place. -/
def Spelling.placeCheck (u : Spelling) (kind : CheckKind) (letters : List Byte) : Nat × Spelling :=
  let id := findCheckId u.checks 255 u.nextId
  (id, { u with checks := u.checks ++ [⟨id, kind, letters, false⟩], nextId := nextCheckId id })

/-- R135, R145, R152: checks that are to go: the one in progress (the head) is marked discarded and kept, the waiting ones are
removed. -/
def dropChecks (goes : Check → Bool) : List Check → List Check
  | [] => []
  | head :: waiting =>
    (if goes head then { head with discarded := true } else head) :: waiting.filter fun c => !(goes c)

/-! ## Completing a word (R137) -/

/-- R137: a word completed: the state it takes, and its check placed if it gets one. -/
def Spelling.completeWord (u : Spelling) (vpos : Nat) (port : Port) (w : WordRec) : WordRec × Spelling :=
  let w := { w with complete := true }
  if w.letters.length = 1 then ({ w with state := .short }, u)
  else if w.token || decide (24 < w.letters.length) then ({ w with state := .unchecked }, u)
  else if u.mode = .off then ({ w with state := .unchecked }, u)
  else if Config.checkPlaces ≤ u.checks.length then ({ w with state := .unchecked }, u)
  else
    let (id, u') := u.placeCheck (.lineWord true w.start vpos port) w.letters
    ({ w with state := .checking, checkId := some id }, u')

/-- R135, R137: each word found, in order: unchanged words keep their fields; one not yet complete that a separator or a hyphen
follows is completed. Several that complete at one change get their checks in the table's order (log entry 48). -/
def Spelling.enterWords (u : Spelling) (vpos : Nat) (port : Port) (old : List WordRec) :
    List FoundWord → List WordRec × Spelling
  | [] => ([], u)
  | f :: rest =>
    let w := (old.find? fun o => o.entries == f.groups).getD f.fresh
    let (w', u') := if f.ended && !w.complete then u.completeWord vpos port w else (w, u)
    let (ws, u'') := u'.enterWords vpos port old rest
    (w' :: ws, u'')

/-- R136: the marker is set on the entries of UNKNOWN and FLAGGED words and on no other. -/
def markEntries (words : List WordRec) (es : List Entry) : List Entry :=
  es.map fun e =>
    { e with marker := words.any fun w =>
        (w.state == .unknown || w.state == .flagged) && e.group.any fun g => w.entries.contains g }

/-- The compose line's entries replaced. -/
def State.setEntries (s : State) (es : List Entry) : State :=
  { s with comp := { s.comp with line := s.comp.line.map fun l => { l with entries := es } } }

/-- The compose line's entries; none with no line open. -/
def State.entries (s : State) : List Entry := (s.comp.line.map ComposeLine.entries).getD []

/-- R136: the markers written again from the word table. -/
def refreshMarkers (s : State) : State := s.setEntries (markEntries s.spell.words s.entries)

/-- R135: the words derived again after a change of the line's entries. The whole line is derived: a word outside the stretch the
change touches is found again with the same entries and keeps its fields. Checks of words that did not survive are removed, or
marked discarded when in progress. -/
def respell (s : State) : State :=
  match s.comp.line with
  | none => s
  | some l =>
    let found := wordsOf l.entries
    let gone := s.spell.words.filter fun o => !(found.any fun f => f.groups == o.entries)
    let u := { s.spell with checks := dropChecks (fun c => gone.any fun o => o.checkId == some c.id) s.spell.checks }
    let (ws, u') := u.enterWords l.vpos l.port s.spell.words found
    refreshMarkers { s with spell := { u' with words := ws } }

/-- R138, R146: the last word of the table completed if it is OPEN. -/
def completeLast (s : State) : State :=
  match s.comp.line, s.spell.words.getLast? with
  | some l, some w =>
    if w.state = .opened then
      let (w', u) := s.spell.completeWord l.vpos l.port w
      { s with spell := { u with words := s.spell.words.dropLast ++ [w'] } }
    else s
  | _, _ => s

/-- R138: a check detached from its word. -/
def Check.detach (c : Check) : Check :=
  match c.kind with
  | .lineWord _ start v p => { c with kind := .lineWord false start v p }
  | _ => c

/-- R138: the line has ended: its last word is completed, the checks of its words are detached, and the word table emptied. Called
while the compose line still stands. -/
def endWords (s : State) : State :=
  let s' := completeLast s
  { s' with spell := { s'.spell with checks := s'.spell.checks.map Check.detach, words := [] } }

/-! ## The decision (R141, R142) -/

/-- R142: the value of a letter: 'a' is 1 to 'z' 26, the apostrophe 27. -/
def letterValue (c : Byte) : Nat := if c = 0x27 then 27 else c.toNat - 0x60

/-- R142: one signature index after one letter. -/
def indexStep (mult h : Nat) (c : Byte) : Nat := (h * mult + letterValue c) % Config.signatureBits

/-- R142: the three signature indices of a word. -/
def signatureIndices (letters : List Byte) : Nat × Nat × Nat :=
  (letters.foldl (indexStep 31) 1, letters.foldl (indexStep 37) 7, letters.foldl (indexStep 41) 13)

/-- R141: the result and its basis, from the lists and the signature as they stand. -/
def Spelling.decision (u : Spelling) (letters : List Byte) : CheckResult × Basis :=
  if u.rejectWords.contains letters then (.flagged, .rejectList)
  else if u.userWords.contains letters then (.known, .userList)
  else
    let (a, b, c) := signatureIndices letters
    if Config.signature a && Config.signature b && Config.signature c then (.known, .signature) else (.unknown, .signature)

/-- R143: the state a result gives its word. -/
def CheckResult.wordState : CheckResult → WordState
  | .known => .known
  | .unknown => .unknown
  | .flagged => .flagged

/-- R143: the word a check names takes its result. -/
def applyResult (id : Nat) (r : CheckResult) (s : State) : State :=
  let ws := s.spell.words.map fun w => if w.checkId = some id then { w with state := r.wordState, checkId := none } else w
  refreshMarkers { s with spell := { s.spell with words := ws } }

/-- R144: the SPELL ALERT of a LINE WORD result that is not KNOWN: urgent to the console, and a second to the interface for its
own line with its spell reports on. -/
def spellAlert (letters : List Byte) (start v : Nat) (port : Port) (r : CheckResult) (s : State) : State :=
  if r = .known ∨ s.spell.mode = .off then s
  else
    let body := Report.spellAlert letters start v (r == .flagged)
    let s' := queueRecord s .console ⟨body, 0, true⟩
    if port = .interface ∧ s.spell.interfaceReports = true then report s' .interface 0 body else s'

/-- R140, R143, R144, R151: the check in progress completes. It leaves the queue, and the check behind it begins by being the
head; its result is applied or reported unless it is discarded. -/
def completeCheck (s : State) : State :=
  match s.spell.checks with
  | [] => s
  | c :: rest =>
    let s' := { s with spell := { s.spell with checks := rest } }
    if c.discarded then s'
    else
      let (r, basis) := s.spell.decision c.letters
      match c.kind with
      | .wordCheck port tag => report s' port tag (.checkResult c.letters r basis)
      | .lineWord attached start v port =>
        spellAlert c.letters start v port r (if attached then applyResult c.id r s' else s')

/-! ## Spelling modes (R145) -/

/-- Is a check a LINE WORD check? -/
def Check.isLineWord (c : Check) : Bool :=
  match c.kind with
  | .lineWord _ _ _ _ => true
  | _ => false

/-- R145: SPELL MODE taken. To OFF, every LINE WORD check is removed or discarded, and CHECKING words become UNCHECKED. -/
def setSpellMode (m : SpellMode) (s : State) : State :=
  match m with
  | .off =>
    let ws := s.spell.words.map fun w =>
      if w.state = .checking then { w with state := .unchecked, checkId := none } else w
    { s with spell := { s.spell with mode := .off, words := ws, checks := dropChecks Check.isLineWord s.spell.checks } }
  | m => { s with spell := { s.spell with mode := m } }

/-- R145: the mode a parameter names. -/
def spellModeOfCode : Nat → Option SpellMode
  | 0 => some .off
  | 1 => some .alert
  | 2 => some .hold
  | _ => none

/-- R152: RESET ENGINE: the word table emptied, waiting checks removed, the check in progress discarded and kept. -/
def Spelling.resetEngine (u : Spelling) : Spelling := { u with words := [], checks := dropChecks (fun _ => true) u.checks }

/-- R152, R181: interface reset: the interface's WORD CHECK checks removed, or discarded when in progress. -/
def Spelling.resetInterface (u : Spelling) : Spelling :=
  { u with checks := dropChecks (fun c => match c.kind with
      | .wordCheck .interface _ => true
      | _ => false) u.checks }

/-! ## Accepting words and the word lists (R147 to R150) -/

/-- R147: UNKNOWN or FLAGGED. -/
def WordRec.alerted (w : WordRec) : Bool := w.state == .unknown || w.state == .flagged

/-- R147: every UNKNOWN or FLAGGED word becomes ACCEPTED. -/
def acceptWords (s : State) : State :=
  refreshMarkers { s with spell := { s.spell with
    words := s.spell.words.map fun w => if w.alerted then { w with state := .accepted } else w } }

/-- R149: is it a list word: 2 to 24 letters or apostrophes, the first and the last of them letters? -/
def isListWord (w : List Byte) : Bool :=
  decide (2 ≤ w.length) && decide (w.length ≤ 24) && (w.all fun c => isLetter c || c == 0x27) &&
    (w.head?.any isLetter) && (w.getLast?.any isLetter)

/-- Which of the two word lists. -/
inductive WordList where
  | user
  | reject
  deriving DecidableEq, Repr

/-- The words of a list. -/
def Spelling.list (u : Spelling) : WordList → List (List Byte)
  | .user => u.userWords
  | .reject => u.rejectWords

/-- R149: how many words a list holds. -/
def WordList.places : WordList → Nat
  | .user => Config.userWords
  | .reject => Config.rejectWords

/-- R149, step 4: a word added to a list and taken off the other in the same act. -/
def Spelling.addWord (u : Spelling) (l : WordList) (w : List Byte) : Spelling :=
  match l with
  | .user => { u with userWords := u.userWords ++ [w], rejectWords := u.rejectWords.filter fun x => x != w }
  | .reject => { u with rejectWords := u.rejectWords ++ [w], userWords := u.userWords.filter fun x => x != w }

/-- R150: a word taken off a list. -/
def Spelling.removeWord (u : Spelling) (l : WordList) (w : List Byte) : Spelling :=
  match l with
  | .user => { u with userWords := u.userWords.filter fun x => x != w }
  | .reject => { u with rejectWords := u.rejectWords.filter fun x => x != w }

/-- R150: a list emptied. -/
def Spelling.clearList (u : Spelling) : WordList → Spelling
  | .user => { u with userWords := [] }
  | .reject => { u with rejectWords := [] }

/-- R148: the UNKNOWN words of the table, in order, added to the user list where there is room, each with its report; answered
with the counts added and not added for want of room. -/
def learnWords : List WordRec → State → Nat × Nat × State
  | [], s => (0, 0, s)
  | w :: rest, s =>
    if w.state = .unknown then
      if s.spell.userWords.contains w.letters then learnWords rest s
      else if Config.userWords ≤ s.spell.userWords.length then
        let (a, n, s') := learnWords rest s
        (a, n + 1, s')
      else
        let s1 := report { s with spell := s.spell.addWord .user w.letters } .console 0 (.userWordAdded w.letters)
        let (a, n, s') := learnWords rest s1
        (a + 1, n, s')
    else learnWords rest s

end Sys2Proof.Machine
end

