-- ==== Sys2Proof/Machine/Display.lean ====
section
/-! DEFINITION. The display composer (R153 to R160) and the display link unit (R161 to R166). -/

namespace Sys2Proof.Machine

/-! ## The image (R153 to R158) -/

/-- R153: the entries that have a line cell. -/
def cellEntries (s : State) : List Entry := s.entries.filter fun e => e.state != .lifted

/-- R154: the cell of an entry. -/
def Entry.cell (e : Entry) (cursor : Bool) : Cell where
  code := match e.kind with
    | .tab => 0x09
    | _ => e.code
  cursor := cursor
  bold := e.bold
  underline := e.underline
  marker := e.marker
  pending := e.state == .pending || e.state == .held
  unprintable := e.state == .unprintable

/-- R155: the cursor cell: the first line cell at or right of the print point, else the first blank cell. -/
def cursorCell (es : List Entry) (point : Nat) : Nat :=
  (es.findIdx? fun e => decide (point ≤ e.pos)).getD es.length

/-- R156: the window first cell, from the width, the first cell as it stood and the cursor cell. -/
def windowFirst (w f c : Nat) : Nat :=
  if f + w - 1 < c then c - 3 * w / 4
  else if c < f then c - w / 4
  else f

/-- R154: window cell i of a window that begins at line cell f. -/
def windowCell (es : List Entry) (f c i : Nat) : Cell :=
  match es[f + i]? with
  | some e => e.cell (f + i == c)
  | none => Cell.blank (f + i == c)

/-- R158: the status record, less what the image itself holds. -/
def statusRecord (s : State) (lineCells : Nat) : StatusRec where
  mode := s.comp.mode
  justify := s.comp.justify
  spelling := s.spell.mode
  lineOpen := s.comp.line.isSome
  grant := s.arb.grant
  sequencer := s.seq.state
  holds := s.seq.holds
  column := s.comp.printPoint / 12 + 1
  unitsToRm := (s.comp.rm : Int) - s.comp.printPoint
  refusal := s.comp.lastRefusal
  lineCells := lineCells

/-- R159: the image a rebuild computes for a width, before the generation number is settled. -/
def buildImage (w : Nat) (s : State) : Image :=
  let es := cellEntries s
  let c := cursorCell es s.comp.printPoint
  let f := windowFirst w s.disp.image.first c
  { width := w, first := f, cells := (List.range w).map (windowCell es f c), status := statusRecord s es.length,
    generation := s.disp.image.generation }

/-- R159, R160: a rebuild for a width: when anything differs, the image takes the new content, the generation number steps on from
255 to 0, and display ATTN is raised. -/
def rebuildAt (w : Nat) (s : State) : State :=
  let new := buildImage w s
  if new = s.disp.image then s
  else { s with disp := { image := { new with generation := (s.disp.image.generation + 1) % 256 }, attn := true } }

/-- R159: the rebuild after an event. -/
def rebuild (s : State) : State := rebuildAt s.disp.image.width s

/-! ## The display link (R161 to R166) -/

/-- The byte of a cell stream that is n bytes past its first: window cells from a start cell, two bytes each, wrapping. -/
def cellByte (i : Image) (start n : Nat) : Byte :=
  let c := i.cells.getD ((start + n / 2) % i.cells.length) (Cell.blank false)
  c.bytes.getD (n % 2) 0xFF

/-- R161 to R166: the engine's byte in a place of a display transaction: the generation number first, then as the stream gives. -/
def DisplayTxn.byteAt (t : DisplayTxn) (place : Nat) : Byte :=
  if place = 0 then byte t.snapshot.generation
  else match t.stream with
    | .cells start firstPlace => if place < firstPlace then 0xFF else cellByte t.snapshot start (place - firstPlace)
    | .statusRecord => t.snapshot.statusBytes.getD place 0xFF
    | _ => 0xFF

/-- R161: the select is asserted: the snapshot is taken. -/
def DisplayLink.select (l : DisplayLink) (i : Image) : DisplayLink :=
  match l.txn with
  | none => { l with txn := some ⟨i, .awaitCommand, 0, false⟩ }
  | some _ => l

/-- The transaction in progress when it awaits its first byte. -/
def DisplayLink.awaiting (l : DisplayLink) : Option DisplayTxn := l.txn.filter fun t => t.stream == .awaitCommand

/-- R161: the controller's first byte is taken: what the rest of the transaction carries, and the continuous-fetch state after it. -/
def DisplayLink.firstByte (l : DisplayLink) (t : DisplayTxn) (stream : Stream) (continuous : Option Nat) : DisplayLink :=
  { l with continuous, txn := some { t with stream, position := 1 } }

/-- R162, R163: the parameter byte of a window fetch: start cell and continue flag, against the snapshot's width (log entry 30). R164:
the continue flag does not turn the state on in a transaction during which W has changed. -/
def DisplayLink.parameter (l : DisplayLink) (param : Byte) : DisplayLink :=
  match l.txn with
  | some t =>
    if t.stream = .awaitParameter then
      let start := param.toNat % 64
      if start < t.snapshot.width then
        { l with
          continuous := if param.getLsbD 7 && !t.widthChanged then some start else none
          txn := some { t with stream := .cells start 2, position := 2 } }
      else { l with continuous := none, txn := some { t with stream := .filler, position := 2 } }
    else l
  | none => l

/-- The three command codes of the display link. -/
def isDisplayCode (b : Byte) : Bool := b == 0xA1 || b == 0xA2 || b == 0xA3

end Sys2Proof.Machine
end

