-- ==== Sys2Proof/Machine/Line.lean ====
section
/-! DEFINITION. The line store and what every take shares (R21 to R29, R38, R39, R43): opening and closing the compose line,
adding an entry, waiting for places, the notify MARK, the notices of R23 and R125. -/

namespace Sys2Proof.Machine

/-! ## Trying a command (R26, R28) -/

/-- R26, R28: what trying the head command comes to: it waits; it is refused with a reason and what the report carries; or it is
taken. Each carries the state after the try (a spelling hold test can complete a word and still wait or refuse, R146). -/
inductive Try where
  | wait (s : State)
  | refuse (s : State) (r : Reason) (d : RefusalDetail)
  | take (s : State)

/-- R27: the MARK of a notify flag, DONE to the issuing port with the command's tag. -/
def doneMarks (p : Port) (it : QItem) : List SEntry := if it.notify then [.mark p it.tag .done] else []

/-- R26, R27: a command that places entries at its take, with the MARK of its notify flag, is taken only when there is a place for
every one; they are then placed together in order. s' is the state the command's other effects make. -/
def takePlacing (s : State) (p : Port) (it : QItem) (es : List SEntry) (s' : State) : Try :=
  if freePlaces s < (es ++ doneMarks p it).length then .wait s else .take (place (es ++ doneMarks p it) s')

/-! ## Attributes, groups and entries -/

/-- R40: a port's bold attribute. -/
def Composer.boldOf (c : Composer) : Port → Bool
  | .console => c.consoleBold
  | .interface => c.interfaceBold

/-- R40: a port's underline attribute. -/
def Composer.underlineOf (c : Composer) : Port → Bool
  | .console => c.consoleUnderline
  | .interface => c.interfaceUnderline

/-- R22: an entry inserted after every entry whose position is at most its own. -/
def insertEntry (es : List Entry) (e : Entry) : List Entry :=
  (es.takeWhile fun x => x.pos ≤ e.pos) ++ e :: es.dropWhile fun x => x.pos ≤ e.pos

/-- R29: the compose line as it is at its opening. -/
def freshLine (p : Port) (s : State) : ComposeLine where
  port := p
  vpos := s.comp.vpos
  opening := s.comp.printPoint
  marginRelease := s.comp.marginRelease
  entries := []
  underscoreReported := false

/-- R29: a line opens if none is open, for the issuing port, with the word table empty (R132). -/
def openLine (p : Port) (s : State) : State :=
  match s.comp.line with
  | some _ => s
  | none =>
    { s with
      comp := { s.comp with line := some (freshLine p s) }
      spell := { s.spell with words := [] } }

/-- R30, R32, R34: an entry added to the open line, the print point moved, and the words derived again (R135). -/
def addEntry (e : Entry) (newPoint : Nat) (s : State) : State :=
  let s1 := s.setEntries (insertEntry s.entries e)
  respell { s1 with comp := { s1.comp with printPoint := newPoint } }

/-- R30, R34, R41: the bound an entry may not pass: RM, or 1800 with margin release set. -/
def Composer.rightBound (c : Composer) : Nat := if c.marginRelease then Config.travel else c.rm

/-! ## Closing a line (R39, R43) -/

/-- R43: the LM in force after the close that a RETURN or release makes: a pending LM is applied when a line is open. -/
def returnLm (s : State) : Nat := if s.comp.line.isSome then s.comp.pendingLm.getD s.comp.lm else s.comp.lm

/-- R39: the line counter wraps from 65535 to 0. -/
def nextLineCount (n : Nat) : Nat := (n + 1) % 65536

/-- R39: the compose line closes: it leaves the line store, margin release and the alignment request are cleared, a pending LM is
applied, the spelling unit is told (R138). counted: the close is one that increments the line counter. -/
def closeLine (counted : Bool) (s : State) : State :=
  match s.comp.line with
  | none => s
  | some _ =>
    let s1 := endWords s
    { s1 with comp := { s1.comp with
        line := none
        marginRelease := false
        alignment := none
        lm := s1.comp.pendingLm.getD s1.comp.lm
        pendingLm := none
        lineCounter := if counted then nextLineCount s1.comp.lineCounter else s1.comp.lineCounter } }

/-- R38: the clamped vertical position after the spacing. -/
def spacedVpos (s : State) : Nat := min Config.lastHalfLine (s.comp.vpos + s.comp.spacing)

/-- R38: the MOVE and FEED of a RETURN in DIRECT mode. -/
def returnEntries (s : State) : List SEntry := [.move (returnLm s), .feed s.comp.spacing (spacedVpos s)]

/-- R38: a RETURN in DIRECT mode but for its placements: the line closes and is counted, the print point becomes LM and the logical
vertical position the FEED's result. -/
def returnMove (s : State) : State :=
  let s1 := closeLine true s
  { s1 with comp := { s1.comp with printPoint := returnLm s, vpos := spacedVpos s } }

/-! ## Notices from the sequencer (R23, R125) -/

/-- R23: is a PRINT of the group still queued or in flight? -/
def printOutstanding (s : State) (g : Nat) : Bool := s.seq.queue.any (SEntry.isPrintOf g) || printInFlight s g

/-- R23: the composer is told of a completed or skipped strike's group: a PENDING entry of it becomes STRUCK when no PRINT of the
group is left. -/
def tellStrike (g : Nat) (s : State) : State :=
  if printOutstanding s g then s
  else s.setEntries (s.entries.map fun e =>
    if e.group = some g ∧ e.state = .pending then { e with state := .struck } else e)

/-- R125: the composer is told of a completed LIFT's group: its entry becomes LIFTED when nothing of the group is queued, in
flight, or recorded unclaimed at the line's vertical position. -/
def tellLift (g : Nat) (s : State) : State :=
  match s.comp.line with
  | none => s
  | some l =>
    if (l.entries.any fun e => e.group == some g && e.state != .lifted) &&
        !(s.seq.queue.any (SEntry.ofGroup g)) && !(s.seq.inflight.any fun f => f.entry.ofGroup g) &&
        (groupRecords s g l.vpos).isEmpty then
      respell (s.setEntries (s.entries.map fun e => if e.group = some g then { e with state := .lifted } else e))
    else s

end Sys2Proof.Machine
end

