-- ==== Sys2Proof/Machine/Corrections.lean ====
section
/-! DEFINITION. Lifting off errors (R109 to R129): the target lookup, choosing and judging the targets, the take, and the
correction in progress. -/

namespace Sys2Proof.Machine

/-! ## The target lookup (R110, R111) -/

/-- A strike as the lookup sees it, wherever it stands: role, position, typing code. -/
structure Seen where
  role : Role
  pos : Nat
  code : Byte
  deriving DecidableEq, Repr

/-- Source 3: the PRINT entries of group g at v, queued or in flight. -/
def waitingStrikes (s : State) (g v : Nat) : List Seen :=
  (s.seq.queue ++ (s.seq.inflight.map InFlight.entry).toList).filterMap fun e =>
    match e with
    | .print p => if p.group = g ∧ p.vpos = v then some ⟨p.role, p.pos, p.code⟩ else none
    | _ => none

/-- A record as the lookup sees it. -/
def StrikeRec.seen (r : StrikeRec) : Seen := ⟨r.role, r.pos, r.code⟩

/-- Sources 3 and 4 of a group: its strikes waiting and its unclaimed records. -/
def strikesSeen (s : State) (g v : Nat) : List Seen :=
  waitingStrikes s g v ++ (groupRecords s g v).map StrikeRec.seen

/-- Every strike of a group, claimed records too: what R113 looks for a BASE in. -/
def allStrikes (s : State) (g v : Nat) : List Seen :=
  waitingStrikes s g v ++ (((slotAt s.mem v).map LineSlot.records).getD [] |>.filter fun r => r.group == g).map StrikeRec.seen

/-- The BASE strike of a group, queued, in flight or recorded. -/
def baseStrike (s : State) (g v : Nat) : Option Seen := (allStrikes s g v).find? fun x => x.role == .base

/-- The compose line's entry of a group. -/
def composeEntry (s : State) (g : Nat) : Option Entry := s.entries.find? fun e => e.group == some g

/-- The print line's entry of a group. -/
def printLineEntry (s : State) (g : Nat) : Option PrintEntry :=
  s.comp.printLine.bind fun l => l.entries.find? fun e => e.group == some g

/-- The least of a list of positions. -/
def leastPos : List Nat → Option Nat
  | [] => none
  | p :: rest => some (rest.foldl min p)

/-- R110: the key position of a group: its entry's position in either line; else its BASE strike's; else the least among its
strikes. -/
def keyPosition (s : State) (g v : Nat) : Option Nat :=
  match composeEntry s g, printLineEntry s g, baseStrike s g v with
  | some e, _, _ => some e.pos
  | none, some e, _ => some e.pos
  | none, none, some b => some b.pos
  | none, none, none => leastPos ((strikesSeen s g v).map Seen.pos)

/-- R110: the group numbers the four sources offer at v. -/
def sourceGroups (s : State) (v : Nat) : List Nat :=
  (s.entries.filterMap fun e => if e.state = .lifted then none else e.group) ++
    (match s.comp.printLine with
      | some l => if l.vpos = v then (l.entries.drop l.cursor).filterMap PrintEntry.group else []
      | none => []) ++
    ((s.seq.queue ++ (s.seq.inflight.map InFlight.entry).toList).filterMap fun e => match e with
      | .print p => if p.vpos = v then some p.group else none
      | _ => none) ++
    (match slotAt s.mem v with
      | some sl => (sl.records.filter fun r => !(claimed s r.ref)).map StrikeRec.group
      | none => [])

/-- R113: is a candidate a space group? -/
def isSpaceGroup (s : State) (g v : Nat) : Bool :=
  match composeEntry s g with
  | some e => e.kind == .space
  | none =>
    (baseStrike s g v).isNone && !(slotTruncated s v && !(groupRecords s g v).isEmpty)

/-- R112: a held target: the compose line holds its entry HELD or UNPRINTABLE. -/
def isHeldGroup (s : State) (g : Nat) : Bool :=
  (composeEntry s g).any fun e => e.state == .held || e.state == .unprintable

/-- A candidate of the lookup. -/
structure Candidate where
  group : Nat
  key : Nat
  space : Bool
  held : Bool
  deriving DecidableEq, Repr

/-- R111: right to left, and at one key position the higher group number first. -/
def Candidate.before (a b : Candidate) : Bool := decide (b.key < a.key) || (a.key == b.key && decide (b.group < a.group))

/-- A candidate put in its place in the order; a group already there is one group. -/
def insertCandidate (c : Candidate) : List Candidate → List Candidate
  | [] => [c]
  | d :: rest => if c.group = d.group then d :: rest else if c.before d then c :: d :: rest else d :: insertCandidate c rest

/-- R110, R111: the target lookup: the candidate groups at the logical vertical position, left of the print point, in order. -/
def targetLookup (s : State) : List Candidate :=
  let v := s.comp.vpos
  (sourceGroups s v).foldl (fun cs g =>
    match keyPosition s g v with
    | some k => if k < s.comp.printPoint then insertCandidate ⟨g, k, isSpaceGroup s g v, isHeldGroup s g⟩ cs else cs
    | none => cs) []

/-! ## Choosing the targets (R113, R114) -/

/-- R114, second test: a plain space or tab stands on the open line between two key positions. -/
def blankBetween (s : State) (l r : Nat) : Bool :=
  s.entries.any fun e =>
    (e.kind == .space || e.kind == .tab) && e.state != .lifted && e.group.isNone && decide (l < e.pos) && decide (e.pos < r)

/-- R114, third test: the typing code a group's escapement is measured by: its BASE's; its BOLD SECOND's, which is the same code
(R16), when truncation has taken the BASE; else the free value of log entry 6. -/
def baseCode (s : State) (g v : Nat) : Byte :=
  match baseStrike s g v, (allStrikes s g v).find? fun x => x.role == .boldSecond with
  | some b, _ => b.code
  | none, some b => b.code
  | none, none => Config.lostBaseCode g

/-- R114: does the walk go on from target t to candidate c? -/
def walkGoesOn (s : State) (t c : Candidate) : Bool :=
  !c.space && !(blankBetween s c.key t.key) &&
    ((composeEntry s c.group).isSome ||
      decide (t.key ≤ c.key + escapement s.descriptor (baseCode s c.group s.comp.vpos)))

/-- R114: the walk from a target along the order. -/
def wordWalk (s : State) (t : Candidate) : List Candidate → List Candidate
  | [] => []
  | c :: rest => if walkGoesOn s t c then c :: wordWalk s c rest else []

/-- R113, R114: the targets of a correction, right to left. -/
def chooseTargets (kind : CorrectionKind) (s : State) (cs : List Candidate) : List Candidate :=
  match kind with
  | .correct => cs.take 1
  | .lineCorrect => cs
  | .wordCorrect =>
    match cs.dropWhile Candidate.space with
    | [] => []
    | t :: rest => t :: wordWalk s t rest

/-! ## Judging a paper target (R117, R118) -/

/-- The PRINT entries of a group in the strike queue. -/
def queuedPrints (s : State) (g : Nat) : Nat := s.seq.queue.countP (SEntry.isPrintOf g)

/-- The LIFT entries of a group in the strike queue. -/
def queuedLifts (s : State) (g : Nat) : Nat := s.seq.queue.countP (SEntry.isLiftOf g)

/-- R117: the lift need of a paper target. -/
def liftNeed (s : State) (g v : Nat) : Nat :=
  (groupRecords s g v).length + queuedLifts s g + (if printInFlight s g then 1 else 0)

/-- R117: an empty paper target. -/
def isEmptyTarget (s : State) (g v : Nat) : Bool :=
  queuedPrints s g == 0 && queuedLifts s g == 0 && !(printInFlight s g) && (groupRecords s g v).isEmpty

/-- R117: a short paper target: empty, or its BASE gone from a truncated slot. -/
def isShortTarget (s : State) (g v : Nat) (space : Bool) : Bool :=
  isEmptyTarget s g v ||
    (!space && slotTruncated s v && !((strikesSeen s g v).any fun x => x.role == .base))

/-- R118: the total T: the lift needs of the paper targets, plus one with the notify flag. -/
def totalNeed (s : State) (paper : List Candidate) (notify : Bool) : Nat :=
  (paper.map fun c => liftNeed s c.group s.comp.vpos).sum + (if notify then 1 else 0)

/-- R118: the need: T, or with T above 64 the lift need of the first paper target. -/
def correctionNeed (s : State) (paper : List Candidate) (notify : Bool) : Nat :=
  let t := totalNeed s paper notify
  if t ≤ Config.strikePlaces then t
  else (paper.head?.map fun c => liftNeed s c.group s.comp.vpos).getD 0

/-- R118: the room: free places, plus the paper targets' PRINT and LIFT entries that the take withdraws. -/
def correctionRoom (s : State) (paper : List Candidate) : Nat :=
  freePlaces s + (paper.map fun c => queuedPrints s c.group + queuedLifts s c.group).sum

/-! ## The correction in progress (R120 to R123) -/

/-- R121: the LIFT of a record: its fields, R15's impression and the issuing port. -/
def liftOf (port : Port) (r : StrikeRec) : SEntry :=
  .lift { ref := some r.ref, code := r.code, group := r.group, pos := r.pos, petal := r.petal, wheel := r.wheel,
          impression := liftImpression r.impression, port }

/-- R121: a target counted short, and the leftmost of the short ones: they come right to left, so it is the last. -/
def Correction.countShort (c : Correction) (t : Target) (short : Bool) : Correction :=
  if short then { c with shorts := c.shorts + 1, leftmostShort := some t.key } else c

/-- R121, R122: the remaining targets placed in order, as far as the strike in flight and the room allow. -/
def placeTargets (c : Correction) : List Target → State → Correction × State
  | [], s => ({ c with remaining := [], phase := .closing }, s)
  | t :: rest, s =>
    if printInFlight s t.group then ({ c with remaining := t :: rest, phase := .waitingOnStrike }, s)
    else
      let records := groupRecords s t.group c.vpos
      if freePlaces s < records.length then ({ c with remaining := t :: rest, phase := .placing }, s)
      else
        let short := !t.withdrawn && isShortTarget s t.group c.vpos t.space
        placeTargets ({ c with placed := c.placed + records.length }.countShort t short) rest
          (place (records.reverse.map (liftOf c.port)) s)

/-- R123: the correction ends: PARTIAL when a target was short, and the grant is decided. -/
def endCorrection (c : Correction) (s : State) : State :=
  let s1 := { s with comp := { s.comp with correction := none } }
  let s2 := match c.shorts, c.leftmostShort with
    | 0, _ => s1
    | _, k => report s1 c.port c.tag (.partialLift c.vpos c.placed c.shorts (k.getD 0))
  decideGrant s2

/-- R123: the phase CLOSING: the notify MARK once there is a place for it, and the end. -/
def closeCorrection (c : Correction) (s : State) : State :=
  if c.notify then
    if freePlaces s < 1 then { s with comp := { s.comp with correction := some c } }
    else endCorrection c (place [.mark c.port c.tag .done] s)
  else endCorrection c s

/-- R121 to R123: what the correction in progress can do now, from any phase: a wait for a strike ends by itself when the strike
has left flight, since the first remaining target is looked at afresh. -/
def correctionWork (s : State) : State :=
  match s.comp.correction with
  | none => s
  | some c =>
    let (c', s') := placeTargets c c.remaining s
    match c'.phase with
    | .closing => closeCorrection c' s'
    | _ => { s' with comp := { s'.comp with correction := some c' } }

/-! ## The take (R115, R116, R119) -/

/-- R115: a blank entry between the new print point and the old one. -/
def Entry.blankIn (e : Entry) (new old : Nat) : Bool :=
  ((e.kind == .space && e.group.isNone) || e.kind == .tab) && e.state != .lifted && decide (new ≤ e.pos) &&
    decide (e.pos < old)

/-- R115, R116, R119: the compose line's entries after a correction's take: held targets deleted, paper targets LIFTED, blank
entries deleted in LINE mode and LIFTED in DIRECT mode. -/
def correctedEntries (mode : Mode) (held paper : List Nat) (new old : Nat) (es : List Entry) : List Entry :=
  (es.filter fun e => !(e.group.any held.contains) && !(mode == .line && e.blankIn new old)).map fun e =>
    if e.group.any paper.contains || (mode == .direct && e.blankIn new old) then { e with state := .lifted } else e

/-- R119: is this PRINT the first strike of the group: its BASE, or, for a SPACE of the compose line, the UNDERSCORE at its position
(R16, R17)? -/
def SEntry.opensGroup (s : State) (g : Nat) : SEntry → Bool
  | .print p => p.group == g &&
      (p.role == .base || p.role == .underscore && (composeEntry s g).any fun e => e.kind == .space && e.pos == p.pos)
  | _ => false

/-- R119: do all the strikes of a group wait in the strike queue? They do when the first of them does, since they leave it in their
order. Of a group without a BASE that the compose line does not hold the lookup cannot tell (log entry 18). -/
def allQueued (s : State) (g : Nat) : Bool := s.seq.queue.any (SEntry.opensGroup s g)

/-- R120: a target's entry in the correction in progress. -/
def Candidate.toTarget (s : State) (c : Candidate) : Target where
  group := c.group
  key := c.key
  space := c.space
  withdrawn := allQueued s c.group

/-- R115: the new print point: the least key position among the targets. -/
def leastKey (ts : List Candidate) (point : Nat) : Nat := (leastPos (ts.map Candidate.key)).getD point

/-- R119, steps 1 to 4, and R116: the take but for the correction in progress. -/
def takeTargets (targets : List Candidate) (s : State) : State :=
  let held := (targets.filter Candidate.held).map Candidate.group
  let paper := (targets.filter fun c => !c.held).map Candidate.group
  let new := leastKey targets s.comp.printPoint
  let s1 := paper.foldl (fun s g => withdraw g s) s
  let s2 := s1.setEntries (correctedEntries s.comp.mode held paper new s.comp.printPoint s1.entries)
  respell { s2 with comp := { s2.comp with printPoint := new } }

/-- R119, step 5: the correction in progress as it is created. -/
def newCorrection (kind : CorrectionKind) (p : Port) (it : QItem) (paper : List Candidate) (s : State) : Correction where
  kind := kind
  tag := it.tag
  notify := it.notify
  port := p
  vpos := s.comp.vpos
  remaining := paper.map (Candidate.toTarget s)
  placed := 0
  shorts := 0
  leftmostShort := none
  phase := .placing

/-- R116, R119: the take of a correction with these targets. -/
def takeCorrection (kind : CorrectionKind) (p : Port) (it : QItem) (targets : List Candidate) (s : State) : State :=
  let paper := targets.filter fun c => !c.held
  let s1 := takeTargets targets s
  if paper = [] then place (doneMarks p it) s1
  else correctionWork { s1 with comp := { s1.comp with correction := some (newCorrection kind p it paper s) } }

/-- R113, R114, R117, R118: a try of CORRECT, WORD CORRECT or LINE CORRECT. -/
def tryCorrection (kind : CorrectionKind) (s : State) (p : Port) (it : QItem) : Try :=
  let targets := chooseTargets kind s (targetLookup s)
  let paper := targets.filter fun c => !c.held
  match targets with
  | [] => .refuse s .notRemembered (.line s.comp.vpos s.comp.printPoint)
  | t :: _ =>
    if paper ≠ [] ∧ s.comp.printLine.isSome then .wait s
    else if targets.all fun c => !c.held && isEmptyTarget s c.group s.comp.vpos then
      .refuse s .notRemembered (.line s.comp.vpos t.key)
    else if correctionRoom s paper < correctionNeed s paper it.notify then .wait s
    else .take (takeCorrection kind p it targets s)

end Sys2Proof.Machine
end

