-- ==== Sys2Proof/Machine/Sequencer.lean ====
section
/-! DEFINITION. The mechanism sequencer (R67 to R96): beginning and completing entries, supervised motions and their retries, FAULT,
homing, the begin test. -/

namespace Sys2Proof.Machine

/-- The sequencer's fields replaced. -/
def State.setSeq (s : State) (q : Sequencer) : State := { s with seq := q }

/-! ## Completions, skips and drops (R75 to R80) -/

/-- R67: no entry is in flight and nothing moves. -/
def endFlight (s : State) : State := s.setSeq { s.seq with inflight := none, motion := .rest }

/-- R122: a correction that waits for a strike looks again when a PRINT has completed or been skipped. -/
def resumeCorrection (s : State) : State :=
  if s.comp.correction.any fun c => c.phase == .waitingOnStrike then correctionWork s else s

/-- R75: the composer is told that a strike of a group is over. -/
def strikeOver (g : Nat) (s : State) : State := resumeCorrection (tellStrike g s)

/-- R75, R99: the record of a completed PRINT. -/
def recordOf (p : PrintStrike) (f : InFlight) (s : State) : StrikeRec where
  ref := freshRef s
  group := p.group
  role := p.role
  pos := p.pos
  petal := f.petal
  wheel := f.wheel
  code := p.code
  impression := f.impression

/-- R75, R100: a PRINT completes: its record is filed, then the composer is told. -/
def completePrint (p : PrintStrike) (f : InFlight) (s : State) : State :=
  strikeOver p.group { s with mem := fileRecord p.vpos (recordOf p f s) s.mem }

/-- R77, R103, R104, R125: a LIFT completes: its record leaves the memory, and the composer is told the group. -/
def completeLift (l : LiftStrike) (s : State) : State :=
  match l.ref with
  | some ref => tellLift l.group { s with mem := removeRef ref s.mem }
  | none =>
    match recordUnder s s.seq.vpos l.pos l.code with
    | some r => tellLift r.group { s with mem := removeRef r.ref s.mem }
    | none => s

/-- R78, R107: a FEED completes; a clamped one clears the correction memory. -/
def completeFeed (result : Nat) (clamped : Bool) (s : State) : State :=
  let s1 := s.setSeq { s.seq with vpos := result }
  if clamped then clearMemory s1 else s1

/-- R80: a MARK queues its report. -/
def completeMark (port : Port) (tag : Byte) (kind : MarkKind) (s : State) : State :=
  match kind with
  | .done => report s port tag .done
  | .lineDone v => report s port tag (.lineDone v)

/-- R96: an entry that a RESET ENGINE left moving is over: its result is handed to nothing, and the physical vertical position is 0. A
correction taken since, which waits for it as a PRINT in flight of its target, looks again (R122; log entry 51). -/
def endDiscarded (s : State) : State :=
  let s1 := endFlight s
  resumeCorrection (s1.setSeq { s1.seq with vpos := 0 })

/-- R74 to R80: the entry in flight completes. -/
def completeEntry (f : InFlight) (s : State) : State :=
  let s1 := endFlight s
  if f.discard then endDiscarded s
  else match f.entry with
    | .print p => completePrint p f s1
    | .lift l => completeLift l s1
    | .feed _ result => completeFeed result f.clamped s1
    | .move _ => s1
    | .mark port tag kind => completeMark port tag kind s1

/-- R75: a PRINT with no petal is skipped: the composer is told, and UNPRINTED goes to the source port. -/
def skipPrint (p : PrintStrike) (s : State) : State :=
  report (strikeOver p.group (endFlight s)) p.port 0 (.unprinted p.group p.pos p.code (some p.role))

/-- R76: a LIFT dropped with its report. -/
def dropLift (l : LiftStrike) (body : Report) (s : State) : State := report (endFlight s) l.port 0 body

/-! ## Motions (R74, R79, R81) -/

/-- R81, R82: a motion of the entry in flight starts; first: it is not a retry, and the attempt count is set to 0. -/
def startMotion (f : InFlight) (m : Motion) (first : Bool) (s : State) : State :=
  s.setSeq { s.seq with inflight := some f, motion := m, attempts := if first then 0 else s.seq.attempts }

/-- R74, R76: the wheel's step; a rotation of distance 0 completes at once, and the hammer has fired when the wheel stands. -/
def turnWheel (f : InFlight) (first : Bool) (s : State) : State :=
  let f' := { f with step := .wheel }
  if rotationDistance s.seq.petal f.petal = 0 then completeEntry f' s else startMotion f' (.wheel 0) first s

/-- R74, R79: the carriage stands at the entry's position. -/
def afterCarriage (f : InFlight) (s : State) : State :=
  match f.entry with
  | .print _ | .lift _ => turnWheel f true s
  | _ => completeEntry f s

/-- The position an entry's carriage step goes to. -/
def SEntry.target : SEntry → Nat
  | .print p => p.pos
  | .lift l => l.pos
  | .move t => t
  | _ => 0

/-- R74, R79: the carriage step; with the carriage there already it completes without a motion. -/
def driveCarriage (f : InFlight) (first : Bool) (s : State) : State :=
  if s.seq.carriage = f.entry.target then afterCarriage f s else startMotion f .carriage first s

/-! ## Beginning an entry (R67, R74, R76, R78 to R80) -/

/-- The entry in flight as it begins: moving, at its first step. -/
def freshFlight (e : SEntry) (petal impression wheel : Nat) : InFlight where
  entry := e
  stopped := false
  step := .carriage
  petal := petal
  impression := impression
  wheel := wheel
  clamped := false
  discard := false

/-- R11: the petal a code resolves to on the mounted wheel, with its impression class. -/
def resolvePetal (s : State) (c : Byte) : Option (Nat × Nat) :=
  s.descriptor.bind fun d => (d.petalOf c).map fun n => (n, (d.petalAt n).impression)

/-- R74: a PRINT begins. -/
def beginPrint (p : PrintStrike) (s : State) : State :=
  match resolvePetal s p.code with
  | none => skipPrint p s
  | some (n, cls) => driveCarriage (freshFlight (.print p) n (printImpression s.comp.impression cls) s.seq.mounted) true s

/-- R76: a LIFT begins: the wheel check, the record check, then its motions. -/
def beginLift (l : LiftStrike) (s : State) : State :=
  if l.wheel ≠ s.seq.mounted then dropLift l (.wheelMismatch l.group l.pos l.wheel s.seq.mounted) s
  else if l.ref.any fun r => (recordOfRef s.mem r).isNone then dropLift l (.liftLost l.group l.pos) s
  else driveCarriage (freshFlight (.lift l) l.petal l.impression l.wheel) true s

/-- R78: a FEED begins; with the paper there already it completes without a motion. -/
def beginFeed (amount : Int) (result : Nat) (s : State) : State :=
  let f := { freshFlight (.feed amount result) 0 0 0 with
    step := .feed, clamped := decide ((result : Int) ≠ (s.seq.vpos : Int) + amount) }
  if s.seq.vpos = result then completeEntry f s else startMotion f .feed true s

/-- R67, R72: an entry begins, or a stopped one begins again: it is the entry in flight, or has completed, been skipped or been
dropped at once. -/
def beginEntry (e : SEntry) (s : State) : State :=
  match e with
  | .print p => beginPrint p s
  | .lift l => beginLift l s
  | .feed amount result => beginFeed amount result s
  | .move t => driveCarriage (freshFlight (.move t) 0 0 0) true s
  | .mark port tag kind => completeMark port tag kind (endFlight s)

/-! ## Homing (R86 to R89) -/

/-- R86, R87: a homing starts: the request is cleared and the carriage driven to the left stop. -/
def startHoming (s : State) : State :=
  s.setSeq { s.seq with homingRequest := false, motion := .homeCarriage, attempts := 0 }

/-- R88: WHEEL UNDEFINED follows whether the mounted code has a descriptor. -/
def wheelLookup (s : State) : State :=
  if s.descriptor.isNone then joinHold .wheelUndefined s else leaveHold .wheelUndefined s

/-- R88, step 3: the hub code becomes the mounted wheel code. -/
def readHub (code : Nat) (s : State) : State :=
  let s1 := s.setSeq { s.seq with mounted := code }
  wheelLookup (if code = s.seq.mounted then s1 else report s1 .console 0 (.wheelChanged s.seq.mounted code))

/-- R88, R89: steps 3 and 4, and the end of the homing. -/
def finishHoming (code : Nat) (s : State) : State :=
  let s1 := readHub code s
  let s2 := s1.setSeq { s1.seq with motion := .rest }
  match s2.descriptor with
  | some d => pitchTest d s2
  | none => s2

/-- R86, R90: a homing whose request has been set stops when its motion has settled or failed. -/
def stopHoming (s : State) : State := s.setSeq { s.seq with motion := .rest }

/-- R87, step 1: the carriage stands at the left stop. -/
def homedCarriage (s : State) : State :=
  let s1 := s.setSeq { s.seq with carriage := 0 }
  if s.seq.homingRequest then stopHoming s1 else s1.setSeq { s1.seq with motion := .homeWheel }

/-- R87, step 2: the index is seen. -/
def homedWheel (code : Nat) (s : State) : State :=
  let s1 := leaveHold .wheelAbsent (s.setSeq { s.seq with petal := 0 })
  if s.seq.homingRequest then stopHoming s1 else finishHoming code s1

/-- R87, step 2: the search ends without the index; homing goes on with code 0. -/
def indexNotFound (s : State) : State :=
  let s1 := joinHold .wheelAbsent s
  if s.seq.homingRequest then stopHoming s1 else finishHoming 0 s1

/-! ## Failed attempts and FAULT (R82 to R84) -/

/-- R84: what MECH FAULT tells of the stopped entry. -/
def faultEvent (axis : Axis) (e : Option SEntry) : MechEvent :=
  .fault axis (e.map SEntry.kindCode) (e.bind fun e => match e with
    | .print p => some (p.group, p.pos)
    | .lift l => some (l.group, l.pos)
    | _ => none)

/-- R84: the third failed attempt: FAULT, with the entry in flight stopped. R96: an entry a RESET ENGINE left moving is discarded
instead, with no FAULT. -/
def enterFault (axis : Axis) (s : State) : State :=
  if s.seq.inflight.any InFlight.discard then endDiscarded s
  else
    let stopped := s.seq.inflight.map fun f => { f with stopped := true }
    let s1 := s.setSeq { s.seq with fault := true, motion := .rest, inflight := stopped }
    queueRecord s1 .console ⟨.mech (faultEvent axis (stopped.map InFlight.entry)) s1.seq.holds .fault, 0, true⟩

/-- R82: the retry that follows a failed attempt of a motion: the axis is re-homed, the feed driven again; a homing's carriage drive
is made again, or the homing stops when its request has been set (R86). -/
def retryMotion (m : Motion) (s : State) : State :=
  match m with
  | .carriage | .rehomeCarriage => s.setSeq { s.seq with motion := .rehomeCarriage }
  | .wheel _ | .rehomeWheel => s.setSeq { s.seq with motion := .rehomeWheel }
  | .homeCarriage => if s.seq.homingRequest then stopHoming s else s
  | _ => s

/-- R82, R84: the axis of a supervised motion; the homing index search has a limit of its own (R87). -/
def Motion.axis : Motion → Option Axis
  | .rest | .homeWheel => none
  | .carriage | .rehomeCarriage | .homeCarriage => some .carriage
  | .wheel _ | .rehomeWheel => some .wheel
  | .feed => some .feed

/-- R82: an attempt fails. -/
def failMotion (s : State) : State :=
  match s.seq.motion.axis with
  | none => s
  | some axis =>
    let s1 := s.setSeq { s.seq with attempts := s.seq.attempts + 1 }
    if s1.seq.attempts < 3 then retryMotion s.seq.motion s1 else enterFault axis s1

/-! ## The signals (R81, R83, R87) -/

/-- R81, R83: a settled signal. One of an axis with no motion of its own in progress is ignored. -/
def settledMotion (axis : Axis) (s : State) : State :=
  match axis, s.seq.motion, s.seq.inflight with
  | .carriage, .carriage, some f => afterCarriage f (s.setSeq { s.seq with carriage := f.entry.target })
  | .wheel, .wheel pulses, some f =>
    if pulses = (if crossesIndex s.seq.petal f.petal then 1 else 0) then
      completeEntry f (s.setSeq { s.seq with petal := f.petal })
    else failMotion s
  | .feed, .feed, some f => completeEntry f s
  | _, _, _ => s

/-- R83, R82, R87: an index pulse: counted, ending a wheel re-homing (the rotation is then retried from petal 0), ending the
homing search, or ignored. -/
def pulseSeen (code : Nat) (s : State) : State :=
  match s.seq.motion, s.seq.inflight with
  | .wheel pulses, _ => s.setSeq { s.seq with motion := .wheel (pulses + 1) }
  | .rehomeWheel, some f => turnWheel f false (s.setSeq { s.seq with petal := 0 })
  | .homeWheel, _ => homedWheel code s
  | _, _ => s

/-- R87, R82: the carriage home signal: it settles a homing or a re-homing of the carriage; the move is then retried from 0. -/
def homeSignal (s : State) : State :=
  match s.seq.motion, s.seq.inflight with
  | .homeCarriage, _ => homedCarriage s
  | .rehomeCarriage, some f => driveCarriage f false (s.setSeq { s.seq with carriage := 0 })
  | _, _ => s

/-! ## The begin test (R72, R86) -/

/-- What one begin test does: nothing; or a state, with whether a place of the strike queue was freed or a correction ended. -/
inductive BeginOutcome where
  | nothing
  | began (freed : Bool) (s : State)
  deriving DecidableEq, Repr

/-- Has a correction in progress ended between two states? -/
def correctionEnded (s s' : State) : Bool := s.comp.correction.isSome && s'.comp.correction.isNone

/-- R72, R86: one begin test: a homing that may start is served first; else the stopped entry, or the head of the queue, begins
unless it is held. -/
def beginTest (s : State) : BeginOutcome :=
  if s.seq.fault || s.seq.homing || s.seq.moving then .nothing
  else if s.seq.homingRequest then
    (if s.seq.holds.coverOpen then .nothing else .began false (startHoming s))
  else match s.seq.inflight, s.seq.queue with
    | some f, _ =>
      if s.seq.holds.holds f.entry then .nothing
      else
        let s' := beginEntry f.entry s
        .began (correctionEnded s s') s'
    | none, e :: rest =>
      if s.seq.holds.holds e then .nothing
      else .began true (beginEntry e (s.setSeq { s.seq with queue := rest }))
    | none, [] => .nothing

end Sys2Proof.Machine
end

