-- ==== Sys2Proof/Machine/Release.lean ====
section
/-! DEFINITION. Line release (R49 to R66): measuring, alignment, justification, the hand-over to the print line, feeding and the
closing placements. -/

namespace Sys2Proof.Machine

/-! ## Measuring the line (R52, R53) -/

/-- R52: a plain space: a SPACE entry without underline. -/
def Entry.plainSpace (e : Entry) : Bool := e.kind == .space && !e.underline

/-- R52: the kept entries: those before the trailing plain spaces. -/
def keptEntries (es : List Entry) : List Entry := (es.reverse.dropWhile Entry.plainSpace).reverse

/-- Where an entry ends: its position plus its width. -/
def Entry.finish (e : Entry) : Nat := e.pos + e.width

/-- R53: the span start: the end of the TAB standing last in list order, else the opening position. -/
def spanStart (opening : Nat) (es : List Entry) : Nat :=
  match (es.filter fun e => e.kind == .tab).getLast? with
  | some e => e.finish
  | none => opening

/-- R53: is an entry in the span that starts at S? -/
def Entry.inSpan (e : Entry) (start : Nat) : Bool := e.kind != .tab && decide (start ≤ e.pos)

/-- R53: the entries of the span. -/
def spanOf (start : Nat) (es : List Entry) : List Entry := es.filter fun e => e.inSpan start

/-- R53: does each entry begin where the one before it ends, the first at a start? -/
def continuousFrom : Nat → List Entry → Bool
  | _, [] => true
  | p, e :: rest => e.pos == p && continuousFrom e.finish rest

/-- Is an entry a CHAR? -/
def Entry.isChar (e : Entry) : Bool := e.kind == .char

/-- R53: the span's entries from its first CHAR to its last, both included. -/
def textOf (span : List Entry) : List Entry :=
  ((span.dropWhile fun e => !e.isChar).reverse.dropWhile fun e => !e.isChar).reverse

/-- R53: G, the number of gaps. -/
def gapCount (span : List Entry) : Nat := (textOf span).countP fun e => e.kind == .space

/-- R53: E, RM minus the end of the span's last entry. -/
def spareUnits (rm : Nat) (span : List Entry) : Nat := rm - ((span.getLast?.map Entry.finish).getD rm)

/-! ## Choosing the alignment (R54 to R57) -/

/-- R54: the outcome of the choice. -/
inductive Layout where
  | flushLeft
  | ignored (request : Alignment) (cause : IgnoreCause)
  | centre
  | right
  | loose (cause : LooseCause)
  | justified
  deriving DecidableEq, Repr

/-- R57: the largest extra any gap would receive. -/
def largestExtra (e g : Nat) : Nat := if e % g = 0 then e / g else e / g + 1

/-- R57: the admission of a line chosen for justification. -/
def admitJustified (smax start rm : Nat) (span : List Entry) : Layout :=
  if continuousFrom start span = false then .loose .brokenSpan
  else if smax < largestExtra (spareUnits rm span) (gapCount span) then .loose .stretch
  else .justified

/-- R54: the alignment of a release, the table's rows in order. flush: RETURN FLUSH or an implied release. -/
def chooseLayout (c : Composer) (l : ComposeLine) (flush : Bool) : Layout :=
  let kept := keptEntries l.entries
  let start := spanStart l.opening kept
  let span := spanOf start kept
  if kept = [] then .flushLeft
  else if flush then .flushLeft
  else match l.marginRelease, c.alignment with
    | true, some r => .ignored r .marginRelease
    | true, none => .flushLeft
    | false, some .centre => if kept.any fun e => e.kind == .tab then .ignored .centre .tab else .centre
    | false, some .right => .right
    | false, none =>
      if c.justify = false ∨ gapCount span = 0 then .flushLeft else admitJustified c.smax start c.rm span

/-- R55: X, the greatest end among the kept entries. -/
def greatestEnd (es : List Entry) : Nat := (es.map Entry.finish).foldl max 0

/-- R55, R56: a start clamped to the range from the opening position to RM − N′, as a shift from the opening position. -/
def clampedShift (start opening x rm : Int) : Nat := (max opening (min start (rm - (x - opening))) - opening).toNat

/-- R55: the shift of a centred line. -/
def centreShift (lm rm : Nat) (opening : Nat) (es : List Entry) : Nat :=
  let x : Int := greatestEnd es
  clampedShift (lm + ((rm : Int) - lm - (x - opening)) / 2) opening x rm

/-- R56: the shift of a right-aligned line. -/
def rightShift (rm : Nat) (opening : Nat) (es : List Entry) : Nat :=
  let x : Int := greatestEnd es
  clampedShift (rm - (x - opening)) opening x rm

/-! ## Final positions (R55 to R59) -/

/-- R50: a released entry at a final position and width. -/
def Entry.released (e : Entry) (pos width : Nat) : PrintEntry where
  kind := e.kind
  code := e.code
  pos := pos
  width := width
  bold := e.bold
  underline := e.underline
  group := e.group
  unprintable := e.state == .unprintable

/-- R54: an entry released as it stands. -/
def Entry.asTyped (e : Entry) : PrintEntry := e.released e.pos e.width

/-- R55, R56: an entry shifted right. -/
def Entry.shifted (n : Nat) (e : Entry) : PrintEntry := e.released (e.pos + n) e.width

/-- R58: the extra units of gap i, counted from 0: by the parity of the line counter, the first r gaps or the last r receive one
more than the quotient. -/
def gapExtra (counter e g i : Nat) : Nat :=
  let q := e / g
  let r := e % g
  if counter % 2 = 0 then (if i < r then q + 1 else q) else (if g - r ≤ i then q + 1 else q)

/-- R53, R59: is the entry at the head of this rest of the span a gap: a SPACE with a CHAR before it (seen) and one after it? -/
def isGap (seen : Bool) (e : Entry) (rest : List Entry) : Bool := e.kind == .space && seen && rest.any Entry.isChar

/-- R59: is a gap bridged: plain, and the nearest CHARs on both sides underlined? before: the CHAR before it is. -/
def isBridged (before : Bool) (e : Entry) (rest : List Entry) : Bool :=
  !e.underline && before && ((rest.find? Entry.isChar).any fun c => c.underline)

/-- R58, R59: the span laid out anew from a position. i gaps have been passed; seen: a CHAR has been passed; before: the last one
was underlined. -/
def layOut (counter e g : Nat) : Nat → Nat → Bool → Bool → List Entry → List PrintEntry
  | _, _, _, _, [] => []
  | p, i, seen, before, x :: rest =>
    if isGap seen x rest then
      let w := x.width + gapExtra counter e g i
      let y := x.released p w
      (if isBridged before x rest then { y with underline := true } else y) :: layOut counter e g (p + w) (i + 1) seen before rest
    else if x.isChar then x.released p x.width :: layOut counter e g (p + x.width) i true x.underline rest
    else x.released p x.width :: layOut counter e g (p + x.width) i seen before rest

/-- R58: a justified line: the entries outside the span as typed, and the span laid out from S. -/
def justifiedEntries (counter rm start : Nat) (kept : List Entry) : List PrintEntry :=
  let span := spanOf start kept
  (kept.filter fun e => !(e.inSpan start)).map Entry.asTyped ++
    layOut counter (spareUnits rm span) (gapCount span) start 0 false false span

/-- R51, step 1: the final positions and widths of the kept entries. -/
def finalEntries (c : Composer) (l : ComposeLine) (layout : Layout) : List PrintEntry :=
  let kept := keptEntries l.entries
  match layout with
  | .centre => kept.map (Entry.shifted (centreShift c.lm c.rm l.opening kept))
  | .right => kept.map (Entry.shifted (rightShift c.rm l.opening kept))
  | .justified => justifiedEntries c.lineCounter c.rm (spanStart l.opening kept) kept
  | _ => kept.map Entry.asTyped

/-- R59: a bridged gap, underlined with no group number yet, is given one by R25; several are numbered from left to right (log entry
46). -/
def numberBridged : List PrintEntry → State → List PrintEntry × State
  | [], s => ([], s)
  | e :: rest, s =>
    if e.kind = .space ∧ e.underline = true ∧ e.group = none then
      let g := s.freeGroup
      let (es, s') := numberBridged rest (s.useGroup g)
      ({ e with group := some g } :: es, s')
    else
      let (es, s') := numberBridged rest s
      (e :: es, s')

/-! ## Feeding (R61, R62) -/

/-- R61: the group of a print line entry, built now. -/
def buildPrintEntry (d : Option Descriptor) (e : PrintEntry) : Built :=
  if e.group.isNone then ⟨[], false⟩ else buildGroup d e.kind (!e.unprintable) e.code e.bold e.underline e.pos e.width

/-- R61: the reports made when an entry's group is built: UNPRINTED for an UNPRINTABLE entry, and once a line for lost
underscores, whose flag is then set. An UNPRINTABLE entry makes its own report alone (log entry 43). -/
def feedReports (l : PrintLine) (e : PrintEntry) (b : Built) (s : State) : State :=
  let g := e.group.getD 0
  if e.unprintable then report s l.port 0 (.unprinted g e.pos e.code none)
  else if b.lost && !l.underscoreReported then report s l.port 0 (.unprinted g e.pos 0x5F (some .underscore))
  else s

/-- R61, R62: the entry at the cursor passed: its reports made, its group placed, the cursor moved on. -/
def feedOne (l : PrintLine) (e : PrintEntry) (s : State) : PrintLine × State :=
  let d := s.descriptor
  let b := buildPrintEntry d e
  ({ l with cursor := l.cursor + 1, underscoreReported := l.underscoreReported || b.lost },
    place (printEntries b l.vpos (e.group.getD 0) (composedPitch d) l.port) (feedReports l e b s))

/-- R62: groups placed in list order while the one at the cursor fits. -/
def feedEntries : List PrintEntry → PrintLine → State → PrintLine × State
  | [], l, s => (l, s)
  | e :: rest, l, s =>
    if freePlaces s < (buildPrintEntry s.descriptor e).strikes.length then (l, s)
    else
      let (l', s') := feedOne l e s
      feedEntries rest l' s'

/-- R62: what the print line can place now. -/
def feedPrintLine (s : State) : State :=
  match s.comp.printLine with
  | none => s
  | some l =>
    let (l', s') := feedEntries (l.entries.drop l.cursor) l s
    { s' with comp := { s'.comp with printLine := some l' } }

/-! ## Closing placements (R63) -/

/-- R63: the closing placements of a print line. -/
def closingEntries (l : PrintLine) : List SEntry :=
  [.move l.moveTarget, .feed l.feedAmount l.feedResult, .mark l.port l.tag (.lineDone l.vpos)] ++
    (if l.notify then [.mark l.port l.tag .done] else [])

/-- R63: the closing placements made, once every entry is passed and there is room; the print line becomes FREE. -/
def closePrintLine (s : State) : State :=
  match s.comp.printLine with
  | none => s
  | some l =>
    if l.entries.length ≤ l.cursor ∧ (closingEntries l).length ≤ freePlaces s then
      place (closingEntries l) { s with comp := { s.comp with printLine := none } }
    else s

/-- R62, R63: the print line's placements. -/
def feed (s : State) : State := closePrintLine (feedPrintLine s)

/-! ## The release (R51, R60) -/

/-- R60: the report of a release, to the line's source port. -/
def releaseReport (port : Port) (tag : Byte) (l : ComposeLine) (rm : Nat) (layout : Layout) (s : State) : State :=
  let span := spanOf (spanStart l.opening (keptEntries l.entries)) (keptEntries l.entries)
  match layout with
  | .loose cause => report s port tag (.looseLine l.vpos cause (spareUnits rm span) (gapCount span))
  | .ignored r cause => report s port tag (.alignIgnored l.vpos r cause)
  | _ => s

/-- R51, step 2: the print line a release makes. -/
def newPrintLine (s : State) (port : Port) (vpos : Nat) (tag : Byte) (notify : Bool) (es : List PrintEntry) : PrintLine where
  port := port
  vpos := vpos
  tag := tag
  notify := notify
  entries := es
  cursor := 0
  moveTarget := returnLm s
  feedAmount := s.comp.spacing
  feedResult := spacedVpos s
  underscoreReported := false

/-- R51: a release of the open line. -/
def releaseOpen (flush : Bool) (tag : Byte) (notify : Bool) (l : ComposeLine) (s : State) : State :=
  let layout := chooseLayout s.comp l flush
  let (es, s1) := numberBridged (finalEntries s.comp l layout) s
  let line := newPrintLine s l.port l.vpos tag notify es
  let s2 := returnMove { s1 with comp := { s1.comp with printLine := some line } }
  feed (releaseReport l.port tag l s.comp.rm layout s2)

/-- R49: a release with no line open: the print line receives no entries; nothing closes and nothing is counted. Its vertical position,
which LINE DONE reports, is the logical one before the FEED (log entry 45). -/
def releaseNone (port : Port) (tag : Byte) (notify : Bool) (s : State) : State :=
  feed (returnMove { s with comp := { s.comp with printLine := some (newPrintLine s port s.comp.vpos tag notify []) } })

/-- R51, R66: a release. p is the port of its command, which is the line's own when a line is open. -/
def release (flush : Bool) (p : Port) (tag : Byte) (notify : Bool) (s : State) : State :=
  match s.comp.line with
  | some l => releaseOpen flush tag notify l s
  | none => releaseNone p tag notify s

end Sys2Proof.Machine
end

