-- ==== Sys2Proof/Machine/TextTakes.lean ====
section
/-! DEFINITION. Tries of the text commands (R30 to R39, R49) and of LIFT CHARACTER and RELOCATE (R128, R129). -/

namespace Sys2Proof.Machine

/-! ## CHAR, SPACE and TAB (R30 to R34) -/

/-- R30, step 1: the compose line holds 200 entries. -/
def lineFull (s : State) : Bool := decide (Config.lineEntries ≤ s.entries.length)

/-- R30, step 2: an entry of width w at the print point would pass its bound. -/
def pastMargin (s : State) (w : Nat) : Bool := decide (s.comp.rightBound < s.comp.printPoint + w)

/-- R18: a group built without its underscores is reported once for the compose line, whose flag records it. -/
def reportLostUnderscore (p : Port) (g pos : Nat) (lost : Bool) (s : State) : State :=
  match s.comp.line with
  | none => s
  | some l =>
    if lost && !l.underscoreReported then
      report { s with comp := { s.comp with line := some { l with underscoreReported := true } } } p 0
        (.unprinted g pos 0x5F (some .underscore))
    else s

/-- R23: the print state of a CHAR or SPACE entry at its take: in LINE mode HELD, or UNPRINTABLE for a CHAR not on the wheel; in
DIRECT mode PENDING when its group places a strike, else STRUCK. -/
def stateAtTake (mode : Mode) (kind : EntryKind) (onWheel : Bool) (strikes : Nat) : PrintState :=
  match mode with
  | .line => if kind = .char && !onWheel then .unprintable else .held
  | .direct => if strikes = 0 then .struck else .pending

/-- R22, R30, R32: the entry a CHAR or SPACE adds; a CHAR and an underlined SPACE carry a group number. -/
def textEntry (s : State) (p : Port) (kind : EntryKind) (c : Byte) (strikes : Nat) : Entry where
  kind := kind
  code := c
  pos := s.comp.printPoint
  width := escapement s.descriptor c
  bold := s.comp.boldOf p
  underline := s.comp.underlineOf p
  group := if kind = .char ∨ s.comp.underlineOf p = true then some s.freeGroup else none
  state := stateAtTake s.comp.mode kind (onDescriptor s.descriptor c) strikes
  marker := false

/-- R30, R32: the group of a CHAR or SPACE as DIRECT mode builds it at the take. -/
def textGroup (s : State) (p : Port) (kind : EntryKind) (c : Byte) : Built :=
  buildGroup s.descriptor kind true c (s.comp.boldOf p) (s.comp.underlineOf p) s.comp.printPoint (escapement s.descriptor c)

/-- R25: the group number of a new entry is used up. -/
def useEntryGroup (e : Entry) (s : State) : State := (e.group.map s.useGroup).getD s

/-- R29, R30: an entry taken: its number used, the line opened, the entry added and the print point moved past it. -/
def takeEntry (p : Port) (e : Entry) (s : State) : State :=
  addEntry e (s.comp.printPoint + e.width) (openLine p (useEntryGroup e s))

/-- R30, R31, R32: a CHAR or SPACE with no test against it left: in DIRECT mode its group is placed with it. -/
def takeText (s : State) (p : Port) (it : QItem) (kind : EntryKind) (c : Byte) : Try :=
  match s.comp.mode with
  | .line => takePlacing s p it [] (takeEntry p (textEntry s p kind c 0) s)
  | .direct =>
    let b := textGroup s p kind c
    let e := textEntry s p kind c b.strikes.length
    let g := e.group.getD 0
    takePlacing s p it (printEntries b s.comp.vpos g (composedPitch s.descriptor) p)
      (reportLostUnderscore p g e.pos b.lost (takeEntry p e s))

/-- R33: does a SPACE of a port become an implied RETURN? -/
def impliesReturn (s : State) (p : Port) : Bool :=
  s.comp.mode == .direct && p == .console && decide (0 < s.comp.zone) && decide (s.comp.rm ≤ s.comp.printPoint + s.comp.zone)

/-- R38: RETURN in DIRECT mode. -/
def tryReturnDirect (s : State) (p : Port) (it : QItem) : Try := takePlacing s p it (returnEntries s) (returnMove s)

/-- R32, R33: SPACE. -/
def trySpace (s : State) (p : Port) (it : QItem) : Try :=
  if impliesReturn s p then tryReturnDirect s p it
  else if lineFull s then .refuse s .lineFull .plain
  else if pastMargin s (escapement s.descriptor 0x20) then .refuse s .margin .plain
  else takeText s p it .space 0x20

/-- R30, R31: CHAR. -/
def tryChar (s : State) (p : Port) (it : QItem) (c : Byte) : Try :=
  if c = 0x20 then trySpace s p it
  else if controlCode c then .refuse s .badParameter .plain
  else if lineFull s then .refuse s .lineFull .plain
  else if pastMargin s (escapement s.descriptor c) then .refuse s .margin .plain
  else if s.comp.mode = .direct ∧ onDescriptor s.descriptor c = false then .refuse s .notOnWheel .plain
  else takeText s p it .char c

/-- R34: the stop a TAB moves to: the least one right of the print point within the bound. -/
def nextStop (s : State) : Option Nat :=
  leastPos (s.comp.tabs.filter fun t => decide (s.comp.printPoint < t) && decide (t ≤ s.comp.rightBound))

/-- R34: the entry a TAB adds. -/
def tabEntry (s : State) (stop : Nat) : Entry where
  kind := .tab
  code := 0x09
  pos := s.comp.printPoint
  width := stop - s.comp.printPoint
  bold := false
  underline := false
  group := none
  state := match s.comp.mode with
    | .line => .held
    | .direct => .struck
  marker := false

/-- R34: TAB. -/
def tryTab (s : State) (p : Port) (it : QItem) : Try :=
  if lineFull s then .refuse s .lineFull .plain
  else match nextStop s with
    | none => .refuse s .noTabStop .plain
    | some stop =>
      takePlacing s p it (if s.comp.mode = .direct then [.move stop] else [])
        (addEntry (tabEntry s stop) stop (openLine p s))

/-! ## BACKSPACE and the micro moves (R35, R36) -/

/-- R35: the width a BACKSPACE goes back: of the last entry in list order, not LIFTED, left of the print point; else the space
width. -/
def backWidth (s : State) : Nat :=
  match (s.entries.filter fun e => e.state != .lifted && decide (e.pos < s.comp.printPoint)).getLast? with
  | some e => e.width
  | none => escapement s.descriptor 0x20

/-- The print point replaced. -/
def setPoint (n : Nat) (s : State) : State := { s with comp := { s.comp with printPoint := n } }

/-- R35: BACKSPACE. -/
def tryBackspace (s : State) (p : Port) (it : QItem) : Try :=
  takePlacing s p it [] (setPoint (s.comp.printPoint - backWidth s) s)

/-- R36: MICRO LEFT, MICRO RIGHT. -/
def tryMicro (s : State) (p : Port) (it : QItem) (sel : Nat) : Try :=
  match sel with
  | 0 => takePlacing s p it [] (setPoint (s.comp.printPoint - 1) s)
  | 1 => takePlacing s p it [] (setPoint (min Config.travel (s.comp.printPoint + 1)) s)
  | _ => .refuse s .badParameter .plain

/-! ## INDEX and RETURN (R37, R38, R49) -/

/-- R37: the clamped result of a move by one half-line. -/
def indexResult (down : Bool) (v : Nat) : Nat := if down then min Config.lastHalfLine (v + 1) else v - 1

/-- R37: INDEX, REVERSE INDEX. -/
def tryIndex (s : State) (p : Port) (it : QItem) (down : Bool) : Try :=
  if s.comp.mode = .line ∧ s.comp.line.isSome then .refuse s .lineOpen .plain
  else if s.comp.mode = .line ∧ s.comp.printLine.isSome then .wait s
  else
    let v := indexResult down s.comp.vpos
    let s1 := closeLine false s
    takePlacing s p it [.feed (if down then 1 else -1) v] { s1 with comp := { s1.comp with vpos := v } }

/-- R146: the verdict of the hold test, with the state it leaves. -/
inductive HoldVerdict where
  | pass (s : State)
  | wait (s : State)
  | refuse (s : State)
  deriving DecidableEq, Repr

/-- R49, R146: the spelling hold test, made for an open console line in HOLD. -/
def holdTest (s : State) : HoldVerdict :=
  if (s.comp.line.any fun l => l.port == .console) && s.spell.mode == .hold then
    let s1 := completeLast s
    if s1.spell.words.any fun w => w.state == .checking then .wait s1
    else if s1.spell.words.any WordRec.alerted then .refuse s1
    else .pass s1
  else .pass s

/-- R49: RETURN and RETURN FLUSH in LINE mode. -/
def tryReturnLine (s : State) (p : Port) (it : QItem) (flush : Bool) : Try :=
  if s.comp.printLine.isSome then .wait s
  else match holdTest s with
    | .wait s1 => .wait s1
    | .refuse s1 => .refuse s1 .spellingHold .plain
    | .pass s1 => .take (release flush p it.tag it.notify s1)

/-- R38, R49: RETURN, RETURN FLUSH. A selector of neither is BAD PARAMETER, without a wait for a FEEDING print line (log entry 44). -/
def tryReturn (s : State) (p : Port) (it : QItem) (sel : Nat) : Try :=
  if 1 < sel then .refuse s .badParameter .plain
  else match s.comp.mode with
    | .direct => tryReturnDirect s p it
    | .line => tryReturnLine s p it (sel == 1)

/-! ## LIFT CHARACTER and RELOCATE (R128, R129) -/

/-- R128: the LIFT of a LIFT CHARACTER, for a code resolved to a petal and its impression class. -/
def liftCharacterEntry (s : State) (p : Port) (c : Byte) (petal cls : Nat) : SEntry :=
  .lift { ref := none, code := c, group := s.freeGroup, pos := s.comp.printPoint - escapement s.descriptor c, petal,
          wheel := s.seq.mounted, impression := liftImpression cls, port := p }

/-- R128: LIFT CHARACTER. -/
def tryLiftCharacter (s : State) (p : Port) (it : QItem) (c : Byte) : Try :=
  if c = 0x20 ∨ controlCode c then .refuse s .badParameter (.typingCode c)
  else match s.descriptor.bind fun d => (d.petalOf c).map fun n => (n, (d.petalAt n).impression) with
    | none => .refuse s .notOnWheel (.typingCode c)
    | some (petal, cls) =>
      if s.comp.printLine.isSome then .wait s
      else
        takePlacing s p it [liftCharacterEntry s p c petal cls]
          (setPoint (s.comp.printPoint - escapement s.descriptor c) (s.useGroup s.freeGroup))

/-- R129: the entries that are not LIFTED. -/
def liveEntries (s : State) : List Entry := s.entries.filter fun e => e.state != .lifted

/-- R129: RELOCATE. -/
def tryRelocate (s : State) (p : Port) (it : QItem) : Try :=
  if liveEntries s = [] then takePlacing s p it [] s
  else
    let x := greatestEnd (liveEntries s)
    takePlacing s p it (if s.comp.mode = .direct then [.move x] else []) (setPoint x s)

end Sys2Proof.Machine
end

