-- ==== Sys2Proof/Machine/SettingTakes.lean ====
section
/-! DEFINITION. Tries of the format and settings commands (R40 to R47, R145). Each places nothing but its notify MARK. -/

namespace Sys2Proof.Machine

/-- R26, R27: a command that places nothing of its own is taken with its new composer state, and its MARK with it. -/
def takeSetting (s : State) (p : Port) (it : QItem) (c : Composer) : Try := takePlacing s p it [] { s with comp := c }

/-- R28: a parameter out of range. -/
def badParameter (s : State) : Try := .refuse s .badParameter .plain

/-! ## Attributes and line settings (R40 to R42) -/

/-- R40: a port's bold attribute set. -/
def Composer.setBold (c : Composer) (p : Port) (b : Bool) : Composer :=
  match p with
  | .console => { c with consoleBold := b }
  | .interface => { c with interfaceBold := b }

/-- R40: a port's underline attribute set. -/
def Composer.setUnderline (c : Composer) (p : Port) (b : Bool) : Composer :=
  match p with
  | .console => { c with consoleUnderline := b }
  | .interface => { c with interfaceUnderline := b }

/-- R40: BOLD ON, BOLD OFF. -/
def tryBold (s : State) (p : Port) (it : QItem) (sel : Nat) : Try :=
  match sel with
  | 0 => takeSetting s p it (s.comp.setBold p false)
  | 1 => takeSetting s p it (s.comp.setBold p true)
  | _ => badParameter s

/-- R40: UNDERLINE ON, UNDERLINE OFF. -/
def tryUnderline (s : State) (p : Port) (it : QItem) (sel : Nat) : Try :=
  match sel with
  | 0 => takeSetting s p it (s.comp.setUnderline p false)
  | 1 => takeSetting s p it (s.comp.setUnderline p true)
  | _ => badParameter s

/-- R41: MARGIN RELEASE. -/
def tryMarginRelease (s : State) (p : Port) (it : QItem) : Try :=
  takeSetting s p it
    { s.comp with marginRelease := true, line := s.comp.line.map fun l => { l with marginRelease := true } }

/-- R42: CENTER, ALIGN RIGHT. -/
def tryAlign (s : State) (p : Port) (it : QItem) (a : Alignment) : Try :=
  match s.comp.mode with
  | .direct => .refuse s .notInMode .plain
  | .line => takeSetting s p it { s.comp with alignment := some a }

/-! ## Margins and tab stops (R43 to R45) -/

/-- R43: LEFT MARGIN. -/
def tryLeftMargin (s : State) (p : Port) (it : QItem) (pos : Nat) : Try :=
  if Config.travel < pos ∨ s.comp.rm < pos + Config.marginSpan then .refuse s .badMargin .plain
  else takeSetting s p it (if s.comp.line.isSome then { s.comp with pendingLm := some pos } else { s.comp with lm := pos })

/-- R44: does an entry that is not LIFTED end beyond a position? -/
def endsBeyond (s : State) (pos : Nat) : Bool := s.entries.any fun e => e.state != .lifted && decide (pos < e.finish)

/-- R44: RIGHT MARGIN. -/
def tryRightMargin (s : State) (p : Port) (it : QItem) (pos : Nat) : Try :=
  if Config.travel < pos ∨ pos < s.comp.lm + Config.marginSpan ∨
      (s.comp.pendingLm.any fun lm => decide (pos < lm + Config.marginSpan)) then .refuse s .badMargin .plain
  else if endsBeyond s pos then .refuse s .marginConflict .plain
  else takeSetting s p it { s.comp with rm := pos }

/-- R45: a stop put in its place among the stops. -/
def insertStop (pos : Nat) (tabs : List Nat) : List Nat :=
  (tabs.takeWhile fun t => decide (t < pos)) ++ pos :: tabs.dropWhile fun t => decide (t < pos)

/-- R45: the position of a TAB SET or TAB CLEAR: 0xFFFF stands for the print point. -/
def stopPosition (s : State) (pos : Nat) : Nat := if pos = 0xFFFF then s.comp.printPoint else pos

/-- R45: TAB SET, its reasons in the order R45 gives them (R28): TABS FULL, then BAD PARAMETER. -/
def tryTabSet (s : State) (p : Port) (it : QItem) (pos : Nat) : Try :=
  if pos ∈ s.comp.tabs then takeSetting s p it s.comp
  else if Config.tabStops ≤ s.comp.tabs.length then .refuse s .tabsFull .plain
  else if Config.travel < pos then badParameter s
  else takeSetting s p it { s.comp with tabs := insertStop pos s.comp.tabs }

/-- R45: TAB CLEAR. -/
def tryTabClear (s : State) (p : Port) (it : QItem) (pos : Nat) : Try :=
  if Config.travel < pos then badParameter s
  else takeSetting s p it { s.comp with tabs := s.comp.tabs.filter fun t => t != pos }

/-- R45: TAB SET, TAB CLEAR, TAB CLEAR ALL. -/
def tryTabStop (s : State) (p : Port) (it : QItem) (sel pos : Nat) : Try :=
  match sel with
  | 0 => tryTabSet s p it (stopPosition s pos)
  | 1 => tryTabClear s p it (stopPosition s pos)
  | 2 => takeSetting s p it { s.comp with tabs := [] }
  | _ => badParameter s

/-! ## Other settings (R46, R47, R145) -/

/-- R46: SPACING. -/
def trySpacing (s : State) (p : Port) (it : QItem) (n : Nat) : Try :=
  if 2 ≤ n ∧ n ≤ 6 then takeSetting s p it { s.comp with spacing := n } else badParameter s

/-- R14, R46: IMPRESSION. -/
def tryImpression (s : State) (p : Port) (it : QItem) (n : Nat) : Try :=
  match n with
  | 0 => takeSetting s p it { s.comp with impression := .light }
  | 1 => takeSetting s p it { s.comp with impression := .normal }
  | 2 => takeSetting s p it { s.comp with impression := .heavy }
  | _ => badParameter s

/-- R46: AUTO RETURN ZONE. -/
def tryAutoReturnZone (s : State) (p : Port) (it : QItem) (n : Nat) : Try :=
  if n ≤ 240 then takeSetting s p it { s.comp with zone := n } else badParameter s

/-- R46: STRETCH LIMIT. -/
def tryStretchLimit (s : State) (p : Port) (it : QItem) (n : Nat) : Try :=
  if n ≤ 60 then takeSetting s p it { s.comp with smax := n } else badParameter s

/-- R46: JUSTIFY. -/
def tryJustify (s : State) (p : Port) (it : QItem) (n : Nat) : Try :=
  match n with
  | 0 => takeSetting s p it { s.comp with justify := false }
  | 1 => takeSetting s p it { s.comp with justify := true }
  | _ => badParameter s

/-- R47: the mode a parameter names. -/
def modeOfCode : Nat → Option Mode
  | 0 => some .direct
  | 1 => some .line
  | _ => none

/-- R47: MODE. A value out of range is BAD PARAMETER before LINE OPEN is looked at, and without a wait for a FEEDING print line (log
entry 44). -/
def tryMode (s : State) (p : Port) (it : QItem) (n : Nat) : Try :=
  match modeOfCode n with
  | none => badParameter s
  | some m =>
    if s.comp.line.isSome then .refuse s .lineOpen .plain
    else if s.comp.printLine.isSome then .wait s
    else takeSetting s p it { s.comp with mode := m }

/-- R145: SPELL MODE. -/
def trySpellMode (s : State) (p : Port) (it : QItem) (n : Nat) : Try :=
  match spellModeOfCode n with
  | none => badParameter s
  | some m => takePlacing s p it [] (setSpellMode m s)

/-- R145: SPELL REPORTS. -/
def trySpellReports (s : State) (p : Port) (it : QItem) (n : Nat) : Try :=
  match n with
  | 0 => takePlacing s p it [] { s with spell := { s.spell with interfaceReports := false } }
  | 1 => takePlacing s p it [] { s with spell := { s.spell with interfaceReports := true } }
  | _ => badParameter s

end Sys2Proof.Machine
end

