-- ==== Sys2Proof/Machine/Taking.lean ====
section
/-! DEFINITION. Trying the head command of the granted inbound queue, and what comes of the try: it waits, is refused, or is taken
and echoed (R26, R28, R170, R172, R180). -/

namespace Sys2Proof.Machine

/-- A try of a queued command, by its own rule. -/
def tryCmd (s : State) (p : Port) (it : QItem) : Try :=
  match it.cmd with
  | .char c => tryChar s p it c
  | .space => trySpace s p it
  | .tab => tryTab s p it
  | .backspace => tryBackspace s p it
  | .micro sel => tryMicro s p it sel
  | .indexDown => tryIndex s p it true
  | .reverseIndex => tryIndex s p it false
  | .ret sel => tryReturn s p it sel
  | .bold sel => tryBold s p it sel
  | .underline sel => tryUnderline s p it sel
  | .marginRelease => tryMarginRelease s p it
  | .center => tryAlign s p it .centre
  | .alignRight => tryAlign s p it .right
  | .correct => tryCorrection .correct s p it
  | .wordCorrect => tryCorrection .wordCorrect s p it
  | .lineCorrect => tryCorrection .lineCorrect s p it
  | .liftCharacter c => tryLiftCharacter s p it c
  | .relocate => tryRelocate s p it
  | .leftMargin pos => tryLeftMargin s p it pos
  | .rightMargin pos => tryRightMargin s p it pos
  | .tabStop sel pos => tryTabStop s p it sel pos
  | .spacing n => trySpacing s p it n
  | .impression n => tryImpression s p it n
  | .autoReturnZone n => tryAutoReturnZone s p it n
  | .stretchLimit n => tryStretchLimit s p it n
  | .justify n => tryJustify s p it n
  | .mode n => tryMode s p it n
  | .spellMode n => trySpellMode s p it n
  | .spellReports n => trySpellReports s p it n

/-! ## Echo (R180) -/

/-- R180: what the ECHO report of a SPACE carries: RETURN's when it was carried out as one. -/
def echoOfSpace (implied : Bool) : Byte × Option Byte := if implied then (0x46, some 0x0D) else (0x50, some 0x20)

/-- R180: the command and argument bytes of a text command's ECHO; none for the other commands. -/
def echoOf (cmd : QCmd) (implied : Bool) : Option (Byte × Option Byte) :=
  match cmd with
  | .char c => some (if c = 0x20 then echoOfSpace implied else (0x41, some c))
  | .space => some (echoOfSpace implied)
  | .tab => some (0x51, some 0x09)
  | .backspace => some (0x42, some 0x08)
  | .indexDown => some (0x49, some 0x0A)
  | .reverseIndex => some (0x4A, none)
  | .ret _ => some (0x46, some 0x0D)
  | .micro sel => some (0x4B, some (byte sel))
  | _ => none

/-- R180: a console text command taken is echoed to the interface while echo is ON. implied: R33 made a SPACE a RETURN. -/
def echoTake (p : Port) (it : QItem) (implied : Bool) (s : State) : State :=
  if p = .console ∧ s.ifl.echo = true then
    match echoOf it.cmd implied with
    | some (command, arg) => report s .interface it.tag (.echo command arg)
    | none => s
  else s

/-! ## The outcome of a try -/

/-- The head item leaves its inbound queue, and no head command waits. -/
def popHead (p : Port) (s : State) : State :=
  let s1 := s.setInbound p ((s.inbound p).drop 1)
  { s1 with arb := { s1.arb with headWaiting := false } }

/-- R28: a refusal: reported to the port with the command's code and tag, and kept as the console's last refusal reason. A CHAR of 0x20,
carried out as a SPACE (R30), is reported with CHAR's own code (log entry 29). -/
def refuse (p : Port) (it : QItem) (r : Reason) (d : RefusalDetail) (s : State) : State :=
  let s1 := if p = .console then { s with comp := { s.comp with lastRefusal := some r } } else s
  report s1 p it.tag (.refused r (commandCode it.cmd) d)

/-- R26, R28, R170, R173: the state after a try of port p's head command it; s is the state it was tried in. -/
def afterTry (s : State) (p : Port) (it : QItem) : Try → State
  | .wait s' => { s' with arb := { s'.arb with headWaiting := true } }
  | .refuse s' r d => decideGrant (refuse p it r d (popHead p s'))
  | .take s' => decideGrant (echoTake p it (impliesReturn s p) (popHead p s'))

/-- The head command of the granted queue tried once; unchanged when the composer may try none. -/
def tryHead (s : State) : State :=
  match s.head with
  | some (p, it) => afterTry s p it (tryCmd s p it)
  | none => s

end Sys2Proof.Machine
end

