-- ==== Sys2Proof/Machine/Cascade.lean ====
section
/-! DEFINITION. What one event sets off before it is over: freed places given out, implied flushes, the retried head command, begins,
the line hold timer, the display's rebuild. Time-driven events have rows of their own; nothing here waits. -/

namespace Sys2Proof.Machine

/-! ## Takeover and the implied RETURN FLUSH of an interface reset (R38, R178, R182) -/

/-- R38: the implied RETURN FLUSH of DIRECT mode placed: its MOVE and FEED, and the close. -/
def directFlush (s : State) : State := place (returnEntries s) (returnMove s)

/-- R178: the takeover is over: the request cleared, and GRANT TAKEN queued to the interface with the vertical position of the line
that s held and the mode. s1 is the state with that line ended. -/
def endTakeover (s s1 : State) : State :=
  let v := (s.comp.line.map ComposeLine.vpos).getD 0
  report { s1 with arb := { s1.arb with takeover := false } } .interface 0 (.grantTaken v s.comp.mode)

/-- R182: the implied RETURN FLUSH of an interface reset, placed once two places are free; the grant is then decided. A takeover that
was requested since the reset is carried out by the same flush (log entry 22). -/
def tryFlush (s : State) : State :=
  if s.arb.flushPending && decide (2 ≤ freePlaces s) then
    let s1 := directFlush s
    let s2 := if s.arb.takeover then endTakeover s s1 else s1
    decideGrant { s2 with arb := { s2.arb with flushPending := false, grant := none } }
  else s

/-- R66, R178: may the takeover be carried out now? -/
def takeoverReady (s : State) : Bool :=
  s.arb.takeover && s.comp.correction.isNone && s.comp.line.isSome &&
    (match s.comp.mode with
      | .direct => decide (2 ≤ freePlaces s)
      | .line => s.comp.printLine.isNone)

/-- R178: the takeover: the interface's line ended, the request cleared, GRANT TAKEN, and the grant decision. It serves an implied
RETURN FLUSH of an interface reset that waits for the same line (log entry 22). -/
def carryTakeover (s : State) : State :=
  let s1 := match s.comp.mode with
    | .direct => directFlush s
    | .line => release true .interface 0 false s
  let s2 := endTakeover s s1
  decideGrant { s2 with arb := { s2.arb with flushPending := false } }

/-- R178: the takeover, in the event that first allows it. -/
def tryTakeover (s : State) : State := if takeoverReady s then carryTakeover s else s

/-! ## Freed places (R26, R62, R67, R118, R121) -/

/-- R26, R49: a waiting head command is tried again. -/
def retryHead (s : State) : State := if s.arb.headWaiting then tryHead s else s

/-- R62, R67: an entry has left the strike queue, or what a waiter waited for has come: the print line's placements first, then the
correction in progress, an implied flush, a takeover, and the waiting command with what remains. -/
def onFreed (s : State) : State := retryHead (tryTakeover (tryFlush (correctionWork (feed s))))

/-! ## Begins (R72) -/

/-- R72: begin tests, one after another, until an entry is moving, a homing runs, or nothing may begin; each place freed is given out
before the next test. freed: the event has freed places already. -/
def settleLoop : Nat → Bool → State → State
  | 0, _, s => s
  | n + 1, freed, s =>
    let s1 := if freed then onFreed s else s
    match beginTest s1 with
    | .nothing => s1
    | .began freed' s2 => settleLoop n freed' s2

/-- More entries than can begin within one event: 64 queued, 12 strikes for each of 200 entries of either line, 512 lifts and the
closing placements. -/
def settleFuel : Nat := 8192

/-- R72: the begin tests of an event. -/
def settle (freed : Bool) (s : State) : State := settleLoop (s.seq.queue.length + settleFuel) freed s

/-- R72: the begin tests of an event that may have changed the strike queue. -/
def settleIfQueued (before after : State) : State :=
  if after.seq.queue = before.seq.queue then after else settle false after

/-! ## The line hold timer (R176) -/

/-- R176: the three conditions under which the timer runs. -/
def timerRuns (s : State) : Bool :=
  s.arb.grant == some .interface && s.comp.line.isSome && s.ifl.inbound.isEmpty && !s.con.inbound.isEmpty

/-- R181: was the event an interface reset that emptied the interface inbound queue and left an implied RETURN FLUSH waiting? With a
flush waiting nothing else takes an item from that queue. -/
def flushingReset (before after : State) : Bool := after.arb.flushPending && !before.ifl.inbound.isEmpty

/-- R176: the timer after an event: it starts at the event that makes the conditions true, and stops at the one that makes one of
them false. R181, step 4: the interface reset that makes them true, by emptying the queue, leaves it stopped (log entry 22). -/
def timerAfter (before after : State) : Option Nat :=
  if !timerRuns after then none
  else if timerRuns before || flushingReset before after then after.arb.timer
  else some after.arb.holdTime

/-- R176: the timer set after an event. -/
def timerStep (before after : State) : State :=
  { after with arb := { after.arb with timer := timerAfter before after } }

/-! ## The end of an event -/

/-- The end of every event: the line hold timer, then the one rebuild of the display image (R159). -/
def finish (before after : State) : State := rebuild (timerStep before after)

/-! ## A composer take -/

/-- R26, R28, R72: the head command tried, and the begins it sets off. -/
def takeHead (s : State) : State := finish s (settleIfQueued s (tryHead s))

/-- A take row: the head command of the granted queue is tried when it is one of the row's; else nothing happens. A head command that
waits is tried again whenever its row is given (log entry 28). -/
def takeRow (mine : QCmd → Bool) (s : State) : State :=
  match s.head with
  | some (_, it) => if mine it.cmd then takeHead s else s
  | none => s

end Sys2Proof.Machine
end

