-- ==== Sys2Proof/Machine/Immediate.lean ====
section
/-! DEFINITION. The immediate commands (R168, R169): what each does at its arrival, and its answer. Their parameters are the whole of
the frame's or the sequence's, already matched in count (R184, R191). -/

namespace Sys2Proof.Machine

/-- R185: how an immediate command or a console frame is answered. takeData is the DATA of a TAKE, whose record leaves later. -/
inductive Answer where
  | accepted (data : List Byte)
  | queueFull
  | refused (r : Reason)
  | already
  | data (d : List Byte)
  | takeData (d : List Byte)
  | empty
  deriving DecidableEq, Repr

/-! ## Reports and status (R186, R188) -/

/-- R188: PEEK. -/
def peekOp (s : State) : Answer × State :=
  match s.con.reports.records with
  | [] => (.empty, s)
  | r :: _ => (.data r.bytes, s)

/-- R188: TAKE; the record leaves when the reply's last byte is clocked. -/
def takeOp (s : State) : Answer × State :=
  match s.con.reports.records with
  | [] => (.empty, s)
  | r :: _ => (.takeData r.bytes, s)

/-- R186: the 16 data bytes of a STATUS reply. -/
def statusData (s : State) : List Byte :=
  [byte (bitAt s.con.frameError 0 + bitAt s.con.overrun 1), byte s.con.inbound.length, byte s.con.reports.records.length,
    byte (bitAt s.con.reports.loss 0 + bitAt s.con.reports.urgentLost 1), byte s.con.reports.lost,
    byte (bitAt s.ifl.framing 0 + bitAt s.ifl.parity 1 + bitAt s.ifl.overrun 2), byte s.ifl.framingCount,
    byte s.ifl.parityCount, byte s.ifl.overrunCount, byte s.ifl.inbound.length, byte s.ifl.reports.records.length,
    byte s.con.attnLevel, byte s.ifl.rate.code, byte s.ifl.format.code, byte s.seq.state.code, byte s.seq.holds.toNat]

/-- R192: the interface error flags and their counts cleared. -/
def InterfaceLink.clearErrors (l : InterfaceLink) : InterfaceLink :=
  { l with framing := false, parity := false, overrun := false, framingCount := 0, parityCount := 0, overrunCount := 0 }

/-- R186: the console flags cleared. -/
def ConsoleLink.clearErrors (c : ConsoleLink) : ConsoleLink := { c with frameError := false, overrun := false }

/-- R186: STATUS. -/
def statusOp (s : State) : Answer × State :=
  (.data (statusData s), { s with con := s.con.clearErrors, ifl := s.ifl.clearErrors })

/-! ## The sequencer's commands (R70, R85, R91, R92) -/

/-- R86: the homing request set. -/
def requestHoming (s : State) : State := s.setSeq { s.seq with homingRequest := true }

/-- R91: RESUME. -/
def resumeOp (s : State) : Answer × State :=
  match s.seq.state with
  | .fault => (.refused .inFault, s)
  | .homing | .running => (.refused .busy, s)
  | .idle | .blocked => (.accepted [], settle false (requestHoming s))

/-- R85: CLEAR FAULT. -/
def clearFaultOp (s : State) : Answer × State :=
  if s.seq.fault then
    (.accepted [], settle false (requestHoming (s.setSeq { s.seq with fault := false, attempts := 0 })))
  else (.refused .noFault, s)

/-- R92: CONTINUE. -/
def continueOp (s : State) : Answer × State := (.accepted [], settle false (leaveHold .pitchChanged s))

/-- Is an entry a PRINT? -/
def SEntry.isPrint : SEntry → Bool
  | .print _ => true
  | _ => false

/-- R70: the group numbers of the queued PRINT entries, one for each entry. -/
def queuedPrintGroups (s : State) : List Nat :=
  s.seq.queue.filterMap fun e => match e with
    | .print p => some p.group
    | _ => none

/-- R65: the print line after CANCEL PENDING: nothing left ahead of its cursor, and nothing behind it whose strikes were removed. -/
def cancelPrintLine (groups : List Nat) (l : PrintLine) : PrintLine :=
  let kept := (l.entries.take l.cursor).filter fun e => !(e.group.any groups.contains)
  { l with entries := kept, cursor := kept.length }

/-- R70: the compose line entries whose strikes were removed. -/
def cancelled (groups : List Nat) (s : State) : List Entry := s.entries.filter fun e => e.group.any groups.contains

/-- R70: the compose line and the print point after CANCEL PENDING. -/
def cancelComposeLine (groups : List Nat) (s : State) : State :=
  let point := (leastPos ((cancelled groups s).map Entry.pos)).getD s.comp.printPoint
  respell (setPoint point (s.setEntries (s.entries.filter fun e => !(e.group.any groups.contains))))

/-- R65, R70: the line entries removed from both lines. -/
def cancelledEntries (groups : List Nat) (s : State) : Nat :=
  (cancelled groups s).length +
    ((s.comp.printLine.map fun l => l.entries.length - (cancelPrintLine groups l).entries.length).getD 0)

/-- R65, R70: CANCEL PENDING but for what follows from it. -/
def cancelPending (s : State) : State :=
  let groups := queuedPrintGroups s
  let s1 := s.setSeq { s.seq with queue := s.seq.queue.filter fun e => !e.isPrint }
  let s2 := if groups = [] then s1 else cancelComposeLine groups s1
  leaveHold .pitchChanged { s2 with comp := { s2.comp with printLine := s2.comp.printLine.map (cancelPrintLine groups) } }

/-- R70: CANCEL PENDING, answered with the PRINT entries and the line entries removed. -/
def cancelPendingOp (s : State) : Answer × State :=
  let groups := queuedPrintGroups s
  let s1 := cancelPending s
  (.accepted (byte groups.length :: bytes16 (cancelledEntries groups s)),
    settle (decide (s1.seq.queue ≠ s.seq.queue ∨ s1.comp.printLine ≠ s.comp.printLine)) s1)

/-! ## Spelling (R147 to R151) -/

/-- R147: how many words an ACCEPT accepts. -/
def alertedCount (s : State) : Nat := s.spell.words.countP WordRec.alerted

/-- R147: ACCEPT. -/
def acceptOp (s : State) : Answer × State := (.accepted [byte (alertedCount s)], acceptWords s)

/-- R148: ACCEPT AND LEARN. -/
def learnOp (s : State) : Answer × State :=
  let (added, full, s1) := learnWords s.spell.words s
  (.accepted [byte (alertedCount s), byte added, byte full], acceptWords s1)

/-- ACCEPT and ACCEPT AND LEARN share a code; the parameter selects (the catalogue). -/
def acceptCommand (params : List Byte) (s : State) : Answer × State :=
  match params with
  | [0] => acceptOp s
  | [1] => learnOp s
  | _ => (.refused .badParameter, s)

/-- R149: USER WORD ADD, REJECT WORD ADD. -/
def addWordOp (l : WordList) (letters : List Byte) (s : State) : Answer × State :=
  let w := letters.map foldCase
  if !(isListWord letters) then (.refused .badWord, s)
  else if (s.spell.list l).contains w then (.already, s)
  else if l.places ≤ (s.spell.list l).length then (.refused .listFull, s)
  else (.accepted [], { s with spell := s.spell.addWord l w })

/-- R150: USER WORD REMOVE, REJECT WORD REMOVE. -/
def removeWordOp (l : WordList) (letters : List Byte) (s : State) : Answer × State :=
  let w := letters.map foldCase
  if !(isListWord letters) then (.refused .badWord, s)
  else if (s.spell.list l).contains w then (.accepted [], { s with spell := s.spell.removeWord l w })
  else (.already, s)

/-- USER WORD and REJECT WORD: the first parameter selects add or remove, the second is the length. -/
def wordListCommand (l : WordList) (params : List Byte) (s : State) : Answer × State :=
  match params with
  | 0 :: _ :: letters => addWordOp l letters s
  | 1 :: _ :: letters => removeWordOp l letters s
  | _ => (.refused .badParameter, s)

/-- R150: LIST CLEAR. -/
def listClearCommand (params : List Byte) (s : State) : Answer × State :=
  match params with
  | [0] => (.accepted [], { s with spell := s.spell.clearList .user })
  | [1] => (.accepted [], { s with spell := s.spell.clearList .reject })
  | _ => (.refused .badParameter, s)

/-- R151: WORD CHECK. -/
def wordCheckOp (p : Port) (tag : Byte) (letters : List Byte) (s : State) : Answer × State :=
  if !(isListWord letters) then (.refused .badWord, s)
  else if Config.checkPlaces ≤ s.spell.checks.length then (.refused .busy, s)
  else (.accepted [], { s with spell := (s.spell.placeCheck (.wordCheck p tag) (letters.map foldCase)).2 })

/-! ## The wheel table (R3 to R8) -/

/-- R8, R94: the sequencer state in the MECH report of WHEEL UNDEFINED leaving for a descriptor d: the pitch test is made at the same
moment, so nothing has begun where it makes PITCH CHANGED join or finds it there. Log entry 8. -/
def definedState (d : Descriptor) (s : State) : SeqState :=
  Sequencer.stateAfterChange { s.seq with
    holds := { s.seq.holds with wheelUndefined := false, pitchChanged := s.seq.holds.pitchChanged || pitchDiffers d s } }

/-- R8: the wheel holds follow a change of the mounted code's descriptor. -/
def followDescriptor (before after : State) : State :=
  match before.descriptor, after.descriptor with
  | some _, none => joinHold .wheelUndefined after
  | none, some d => pitchTest d (leaveHoldAs .wheelUndefined (definedState d after) after)
  | _, _ => after

/-- The pitch class, slot and code of a WHEEL DEFINE in range (R3). -/
def wheelDefineOp (slot code : Nat) (pitch : Pitch) (s : State) : Answer × State :=
  let target := defineTarget s.wheels slot code
  if wheelBusy s target then (.refused .busy, s)
  else
    let s1 := { s with wheels := s.wheels.set target (some (clearedDescriptor code pitch)) }
    (.accepted [byte target], settle false (followDescriptor s s1))

/-- R3, R4, R5: WHEEL DEFINE. -/
def wheelDefineCommand (params : List Byte) (s : State) : Answer × State :=
  match params with
  | [slot, code, pitch] =>
    match pitchOfCode pitch.toNat with
    | some p =>
      if slot.toNat ≤ 7 ∧ 1 ≤ code.toNat ∧ code.toNat ≤ 63 then wheelDefineOp slot.toNat code.toNat p s
      else (.refused .badParameter, s)
    | none => (.refused .badParameter, s)
  | _ => (.refused .badParameter, s)

/-- R6: are the parameters of a WHEEL MAP in range? -/
def wheelMapValid (slot f k : Nat) (rs : List PetalRec) : Bool :=
  decide (slot ≤ 7) && decide (k ≤ 20) && decide (f ≤ 99) && decide (f + k ≤ 100) && rs.all PetalRec.valid

/-- R6, R7: WHEEL MAP. -/
def wheelMapCommand (params : List Byte) (s : State) : Answer × State :=
  match params with
  | slot :: f :: k :: records =>
    let rs := petalsOfBytes records
    if wheelMapValid slot.toNat f.toNat k.toNat rs then
      match s.wheels.getD slot.toNat none with
      | none => (.refused .slotEmpty, s)
      | some d =>
        if wheelBusy s slot.toNat then (.refused .busy, s)
        else
          (.accepted [],
            { s with wheels := s.wheels.set slot.toNat (some { d with petals := writePetals d.petals f.toNat rs }) })
    else (.refused .badParameter, s)
  | _ => (.refused .badParameter, s)

/-! ## Settings (R157, R175, R176, R180, R187, R190) -/

/-- R157: the display widths. -/
def isWidth (w : Nat) : Bool := [16, 20, 24, 32, 40].contains w

/-- R164: W has changed: the continuous fetch is off, and a transaction in progress leaves it off. -/
def DisplayLink.endContinuous (l : DisplayLink) : DisplayLink where
  continuous := none
  txn := l.txn.map fun t => { t with widthChanged := true }

/-- R157, R164: DISPLAY WIDTH; a change of width ends the continuous fetch. -/
def displayWidthCommand (params : List Byte) (s : State) : Answer × State :=
  match params with
  | [w] =>
    if isWidth w.toNat then
      let s1 := if w.toNat = s.disp.image.width then s else { s with dlink := s.dlink.endContinuous }
      (.accepted [], rebuildAt w.toNat s1)
    else (.refused .badParameter, s)
  | _ => (.refused .badParameter, s)

/-- R175: REMOTE HOLD on. -/
def remoteHoldOp (s : State) : Answer × State := (.accepted [], { s with arb := { s.arb with remoteHold := true } })

/-- R175: RELEASE. -/
def releaseOp (s : State) : Answer × State :=
  (.accepted [], decideGrant { s with arb := { s.arb with remoteHold := false } })

/-- REMOTE HOLD and RELEASE share a code; 1 is REMOTE HOLD, 0 RELEASE. -/
def remoteHoldCommand (params : List Byte) (s : State) : Answer × State :=
  match params with
  | [1] => remoteHoldOp s
  | [0] => releaseOp s
  | _ => (.refused .badParameter, s)

/-- R176: HOLD TIME. -/
def holdTimeCommand (params : List Byte) (s : State) : Answer × State :=
  match params with
  | [t] =>
    if 1 ≤ t.toNat ∧ t.toNat ≤ 60 then (.accepted [], { s with arb := { s.arb with holdTime := t.toNat } })
    else (.refused .badParameter, s)
  | _ => (.refused .badParameter, s)

/-- R187: ATTN LEVEL. -/
def attnLevelCommand (params : List Byte) (s : State) : Answer × State :=
  match params with
  | [n] =>
    if 1 ≤ n.toNat ∧ n.toNat ≤ 32 then (.accepted [], { s with con := { s.con with attnLevel := n.toNat } })
    else (.refused .badParameter, s)
  | _ => (.refused .badParameter, s)

/-- R180: ECHO. -/
def echoCommand (params : List Byte) (s : State) : Answer × State :=
  match params with
  | [0] => (.accepted [], { s with ifl := { s.ifl with echo := false } })
  | [1] => (.accepted [], { s with ifl := { s.ifl with echo := true } })
  | _ => (.refused .badParameter, s)

/-- R190: LINK FORMAT. -/
def linkFormatCommand (params : List Byte) (s : State) : Answer × State :=
  match params with
  | [r, f] =>
    match rateOfCode r.toNat, formatOfCode f.toNat with
    | some rate, some format => (.accepted [], { s with ifl := { s.ifl with
        rate, format, earlierFormats := s.ifl.format :: s.ifl.earlierFormats } })
    | _, _ => (.refused .badParameter, s)
  | _ => (.refused .badParameter, s)

/-- WORD CHECK: the first parameter is the length. -/
def wordCheckCommand (p : Port) (tag : Byte) (params : List Byte) (s : State) : Answer × State :=
  match params with
  | _ :: letters => wordCheckOp p tag letters s
  | [] => (.refused .badWord, s)

/-! ## RESET ENGINE (R48, R96, R108, R152, R183, R196) -/

/-- R195: the frame being sent goes on from its copy; its record is gone from the queue. -/
def InterfaceLink.forgetRecord (l : InterfaceLink) : InterfaceLink :=
  { l with reports := ReportQueue.empty, tx := l.tx.map fun t => { t with queued := false } }

/-- R196: the link units' part, with ENGINE RESET as the first record. -/
def resetLinks (s : State) : State :=
  let con := { s.con.clearErrors with inbound := [], reports := ReportQueue.empty }
  let ifl := { s.ifl.clearErrors.forgetRecord with inbound := [], assembly := .idle }
  queueRecord { s with con, ifl } .console ⟨.engineReset, 0, true⟩

/-- R48, R131: the composer's part. -/
def Composer.resetEngine (c : Composer) : Composer :=
  { c with
    line := none, printLine := none, lm := c.pendingLm.getD c.lm, pendingLm := none,
    printPoint := c.pendingLm.getD c.lm, vpos := 0, lineCounter := 0, consoleBold := false, consoleUnderline := false,
    interfaceBold := false, interfaceUnderline := false, marginRelease := false, alignment := none, correction := none,
    lastRefusal := none }

/-- R183: the arbiter's part. -/
def Arbiter.resetEngine (a : Arbiter) : Arbiter :=
  { a with grant := none, remoteHold := false, timer := none, takeover := false, flushPending := false, headWaiting := false }

/-- R96, but for PITCH CHANGED: the queue emptied, a stopped entry discarded and FAULT left, a moving entry run on with its result
handed to nothing; the vertical position is 0 once nothing moves. -/
def Sequencer.resetEngine (q : Sequencer) : Sequencer :=
  { q with
    queue := [], fault := false, attempts := 0, homingRequest := true,
    inflight := if q.moving then q.inflight.map fun f => { f with discard := true } else none,
    vpos := if q.moving then q.vpos else 0 }

/-- RESET ENGINE on every block. -/
def resetEngine (s : State) : State :=
  let s1 := resetLinks s
  leaveHold .pitchChanged
    { s1 with
      comp := s1.comp.resetEngine, arb := s1.arb.resetEngine, seq := s1.seq.resetEngine, mem := [],
      spell := s1.spell.resetEngine }

/-- R196: RESET ENGINE. -/
def resetEngineOp (s : State) : Answer × State := (.accepted [], settle false (resetEngine s))

/-! ## The catalogue of immediate commands -/

/-- The immediate command a code names, carried out. A code that names none is refused as UNKNOWN COMMAND; the callers have tested
that already. -/
def immediate (code : Byte) (p : Port) (tag : Byte) (params : List Byte) (s : State) : Answer × State :=
  match code with
  | 0x71 => wordCheckCommand p tag params s
  | 0x65 => echoCommand params s
  | 0x66 => linkFormatCommand params s
  | 0x70 => peekOp s
  | 0x74 => takeOp s
  | 0x73 => statusOp s
  | 0x78 => resumeOp s
  | 0x63 => clearFaultOp s
  | 0x6E => continueOp s
  | 0x6B => cancelPendingOp s
  | 0x61 => acceptCommand params s
  | 0x75 => wordListCommand .user params s
  | 0x76 => wordListCommand .reject params s
  | 0x6C => listClearCommand params s
  | 0x64 => wheelDefineCommand params s
  | 0x6D => wheelMapCommand params s
  | 0x77 => displayWidthCommand params s
  | 0x79 => remoteHoldCommand params s
  | 0x68 => holdTimeCommand params s
  | 0x6F => attnLevelCommand params s
  | 0x7A => resetEngineOp s
  | _ => (.refused .unknownCommand, s)

end Sys2Proof.Machine
end

