-- ==== Sys2Proof/Machine/Links.lean ====
section
/-! DEFINITION. The console and interface links (R170, R171, R181, R182, R184 to R195): frames and replies, the byte stream, errors,
break, the interface reset, the transmitter. -/

namespace Sys2Proof.Machine

/-! ## The console transaction (R184, R185, R188) -/

/-- R185: the bytes of a reply: status, length, data. -/
def Answer.bytes : Answer → List Byte
  | .accepted d => [0x00, byte d.length] ++ d
  | .queueFull => [0x01, 0]
  | .refused r => [0x02, 1, byte r.code]
  | .already => [0x03, 0]
  | .data d | .takeData d => [0x04, byte d.length] ++ d
  | .empty => [0x05, 0]

/-- R188: does the answer's record leave when its last byte is clocked? -/
def Answer.takes : Answer → Bool
  | .takeData _ => true
  | _ => false

/-- R184, R188: a transaction that is over; a TAKE not clocked to its last byte was cut short. -/
def ConsoleLink.endTxn (c : ConsoleLink) : ConsoleLink :=
  { c with frameError := c.frameError || c.txn == .replying true, txn := .none }

/-- R185: the reply fixed. -/
def reply (a : Answer) (s : State) : State := { s with con := { s.con with reply := a.bytes, txn := .replying a.takes } }

/-- The select asserted for a new frame: any earlier transaction is over. -/
def openTxn (s : State) : State := { s with con := s.con.endTxn }

/-- R170: a queued command arriving from the console. -/
def consoleQueued (it : QItem) (s : State) : Answer × State :=
  if s.con.inbound.length < Config.consolePlaces then (.accepted [], enqueue .console it s) else (.queueFull, s)

/-- R184: a frame arrives: its code, its parameter count, then the command. -/
def frameArrives (code tag : Byte) (notify : Bool) (params : List Byte) (s : State) : Answer × State :=
  match codeClass code with
  | none => (.refused .unknownCommand, s)
  | some cls =>
    if !(paramsMatch code params) then (.refused .badParameter, s)
    else match cls, parseQueued code params with
      | .queued, some cmd => consoleQueued ⟨cmd, tag, notify⟩ s
      | _, _ => immediate code .console tag params s

/-- R184, R185: a console frame carried out and answered. -/
def consoleFrame (code tag : Byte) (notify : Bool) (params : List Byte) (s : State) : State :=
  let (a, s1) := frameArrives code tag notify params (openTxn s)
  reply a s1

/-- R184, R186, R188: the select released. -/
def releaseSelect (moment : ReleaseMoment) (c : ConsoleLink) : ConsoleLink :=
  match c.txn, moment with
  | .ignored, _ => { c with txn := .none }
  | _, .atReplyEnd => c.endTxn
  | _, _ => { c with frameError := true, txn := .none }

/-- R188: the last byte of the reply is clocked: the record of a TAKE leaves. -/
def lastByteClocked (c : ConsoleLink) : ConsoleLink :=
  match c.txn with
  | .replying true =>
    { c with reports := { c.reports with records := c.reports.records.drop 1 }, txn := .replying false }
  | _ => c

/-- R186: a select asserted again too early: no byte of the transaction is taken, and it has no reply. A TAKE still pending then counts
as cut short (log entry 38). -/
def ConsoleLink.overrunSelect (c : ConsoleLink) : ConsoleLink := { c.endTxn with overrun := true, txn := .ignored, reply := [] }

/-- R184 to R186: the engine's byte in a place of the console transaction in progress, whose frame has frameBytes bytes: 0xFF during
the frame bytes, then the reply's bytes, then 0xFF for every extra byte; 0xFF throughout a transaction of which no byte is taken. -/
def ConsoleLink.byteAt (c : ConsoleLink) (frameBytes place : Nat) : Byte :=
  match c.txn with
  | .replying _ => if place < frameBytes then 0xFF else c.reply.getD (place - frameBytes) 0xFF
  | .none | .ignored => 0xFF

/-! ## The transmitter (R195) -/

/-- R195: the last byte of a frame has been sent: its record leaves the queue if it still stands there, and the next frame may
begin. -/
def InterfaceLink.frameEnd (l : InterfaceLink) : InterfaceLink :=
  match l.tx with
  | none => l
  | some t =>
    let records := if t.queued then l.reports.records.drop 1 else l.reports.records
    { l with reports := { l.reports with records }, tx := none }.beginFrame

/-! ## Interface errors (R171, R192) -/

/-- R192: an error's flag. -/
def InterfaceLink.flag (l : InterfaceLink) : LinkError → Bool
  | .framing => l.framing
  | .parity => l.parity
  | .overrun => l.overrun

/-- R192: an error's flag set and its count raised, and the sequence under assembly discarded. -/
def InterfaceLink.noteError (l : InterfaceLink) : LinkError → InterfaceLink
  | .framing => { l with framing := true, framingCount := min 255 (l.framingCount + 1), assembly := .idle }
  | .parity => { l with parity := true, parityCount := min 255 (l.parityCount + 1), assembly := .idle }
  | .overrun => { l with overrun := true, overrunCount := min 255 (l.overrunCount + 1), assembly := .idle }

/-- R192: an error; one that sets a clear flag queues INTERFACE ERROR to the console. -/
def linkError (e : LinkError) (s : State) : State :=
  let l := s.ifl.noteError e
  let s1 := { s with ifl := l }
  if s.ifl.flag e then s1
  else report s1 .console 0
    (.interfaceError e l.framing l.parity l.overrun l.framingCount l.parityCount l.overrunCount)

/-! ## Interface reset (R181, R182) -/

/-- R181, steps 1 and 3, of the interface link unit and the composer: the queues, flags and sequence, and the attributes. -/
def resetInterfaceLink (s : State) : State :=
  { s with
    ifl := { s.ifl.clearErrors.forgetRecord with inbound := [], assembly := .idle }
    comp := { s.comp with
      interfaceBold := false, interfaceUnderline := false,
      correction := s.comp.correction.filter fun c => c.port != .interface }
    spell := s.spell.resetInterface
    arb := { s.arb with
      takeover := false, timer := none, headWaiting := s.arb.headWaiting && s.arb.grant != some .interface } }

/-- R182: the LINE mode line discarded without a release. -/
def discardLine (s : State) : State :=
  let s1 := closeLine false s
  setPoint s1.comp.lm s1

/-- R182: what becomes of the interface's open line, and the line effect reported. -/
def resetOpenLine (s : State) : LineEffect × State :=
  if s.comp.line.any fun l => l.port == .interface then
    if s.arb.flushPending then (.none, s)
    else match s.comp.mode with
      | .direct => (.flushed, tryFlush { s with arb := { s.arb with flushPending := true } })
      | .line => (.discarded, discardLine s)
  else (.none, s)

/-- R181, step 6: an interface grant becomes NONE, and is decided anew, unless a flush is waiting. -/
def resetGrant (s : State) : State :=
  if s.arb.grant = some .interface ∧ s.arb.flushPending = false then
    decideGrant { s with arb := { s.arb with grant := none } }
  else s

/-- R181: an interface reset. -/
def interfaceReset (cause : ResetCause) (s : State) : State :=
  let (effect, s1) := resetOpenLine (resetInterfaceLink s)
  settleIfQueued s (report (resetGrant s1) .console 0 (.interfaceReset cause effect))

/-! ## The byte stream (R191) -/

/-- R168, R191: a complete command sequence of the interface arrives. -/
def sequenceArrives (code tag : Byte) (notify : Bool) (params : List Byte) (s : State) : State :=
  match codeClass code with
  | none => s
  | some .consoleOnly => report s .interface tag (.refused .notAllowed code .plain)
  | some .queued =>
    match parseQueued code params with
    | some cmd => enqueue .interface ⟨cmd, tag, notify⟩ s
    | none => s
  | some .either =>
    match immediate code .interface tag params s with
    | (.refused r, s1) => report s1 .interface tag (.refused r code .plain)
    | (_, s1) => s1

/-- R191: the queued command of a text byte. -/
def textByte (b : Byte) : Option QCmd :=
  if b = 0x20 then some .space
  else if (decide (0x21 ≤ b.toNat) && decide (b.toNat ≤ 0x7E)) || decide (0xA0 ≤ b.toNat) then some (.char b)
  else if b = 0x0D then some (.ret 0)
  else if b = 0x09 then some .tab
  else if b = 0x08 then some .backspace
  else if b = 0x0A then some .indexDown
  else none

/-- The sequence under assembly replaced. -/
def setAssembly (a : Assembly) (s : State) : State := { s with ifl := { s.ifl with assembly := a } }

/-- R191: a byte read outside a command sequence. -/
def streamByte (b : Byte) (s : State) : State :=
  if b = 0x1B then setAssembly (.code false) s
  else if b = 0x1C then setAssembly (.code true) s
  else match textByte b with
    | some cmd => enqueue .interface ⟨cmd, 0, false⟩ s
    | none => s

/-- R191, R194: the code byte of a sequence. -/
def codeByte (notify : Bool) (b : Byte) (s : State) : State :=
  if b = 0x40 then interfaceReset .sequence (setAssembly .idle s)
  else match codeClass b with
    | some _ => setAssembly (.body notify b [] none) s
    | none => setAssembly (.unknownTag b none) s

/-- R191: the tag of a code that names no command: REFUSED, UNKNOWN COMMAND. -/
def unknownArrives (code tag : Byte) (s : State) : State :=
  report (setAssembly .idle s) .interface tag (.refused .unknownCommand code .plain)

/-- R191: one more byte of a sequence's tag and parameters; got holds those before it, the tag first. -/
def bodyByte (notify : Bool) (code : Byte) (got : List Byte) (b : Byte) (s : State) : State :=
  match got ++ [b] with
  | tag :: params =>
    if paramsMatch code params then sequenceArrives code tag notify params (setAssembly .idle s)
    else setAssembly (.body notify code (tag :: params) none) s
  | [] => s

/-- R190: what one character of a split or whole byte makes: a byte; the first half of one; or a character that does not belong. -/
inductive SplitRead where
  | whole (b : Byte)
  | half (h : Nat)
  | foreign
  deriving DecidableEq, Repr

/-- R190, R191: a tag or parameter character read in a format, with the half already received. A first half followed by a
character of an 8-bit format makes a byte the manual does not state: log entry 5. -/
def readSplit (f : LineFormat) (half : Option Nat) (b : Byte) : SplitRead :=
  if f.seven then
    if 0x30 ≤ b.toNat ∧ b.toNat ≤ 0x3F then
      match half with
      | none => .half (b.toNat % 16)
      | some h => .whole (byte (h * 16 + b.toNat % 16))
    else .foreign
  else match half with
    | none => .whole b
    | some h => .whole (Config.mixedSplit h b)

/-- R191: a good character of the stream, read in a format. -/
def decodeByte (f : LineFormat) (b : Byte) (s : State) : State :=
  match s.ifl.assembly with
  | .idle => streamByte b s
  | .code notify => codeByte notify b s
  | .unknownTag code half =>
    match readSplit f half b with
    | .whole tag => unknownArrives code tag s
    | .half h => setAssembly (.unknownTag code (some h)) s
    | .foreign => streamByte b (setAssembly .idle s)
  | .body notify code got half =>
    match readSplit f half b with
    | .whole v => bodyByte notify code got v s
    | .half h => setAssembly (.body notify code got (some h)) s
    | .foreign => streamByte b (setAssembly .idle s)

/-! ## Reception (R171, R190, R192, R193) -/

/-- R190: the data byte of a character in a format: seven bits of it in a 7-bit format. -/
def dataBits (f : LineFormat) (b : Byte) : Byte := if f.seven then byte (b.toNat % 128) else b

/-- The count of ones of a byte, modulo 2. -/
def oddOnes (b : Byte) : Bool := (List.range 8).foldl (fun acc i => acc != b.getLsbD i) false

/-- R192: does the parity bit agree with the format? -/
def parityAgrees (f : LineFormat) (b : Byte) (parity : Bool) : Bool :=
  match f with
  | .n8 => true
  | .e8 | .e7 => parity == oddOnes (dataBits f b)
  | .o8 | .o7 => parity != oddOnes (dataBits f b)

/-- R190: the format a received character is read in: the one in force at its start bit. The oldest is that of power-on. -/
def rxFormat (l : InterfaceLink) (rx : RxFrame) : LineFormat := (l.format :: l.earlierFormats).getD rx.since .n8

/-- R171, R191, R192: a character frame received with the line not in a break. A frame in which several errors meet counts as one:
framing before parity, and either before overrun (log entry 53). -/
def receiveFrame (rx : RxFrame) (s : State) : State :=
  let f := rxFormat s.ifl rx
  if !rx.stop then linkError .framing s
  else if !(parityAgrees f rx.data rx.parity) then linkError .parity s
  else if Config.interfacePlaces ≤ s.ifl.inbound.length then linkError .overrun s
  else decodeByte f (dataBits f rx.data) s

/-- R193: nothing is decoded while a break goes on. -/
def receive (rx : RxFrame) (s : State) : State := if s.ifl.inBreak then s else receiveFrame rx s

/-- R193: a break is detected: one interface reset, and no second while it goes on. -/
def breakDetected (s : State) : State :=
  if s.ifl.inBreak then s else interfaceReset .brk { s with ifl := { s.ifl with inBreak := true } }

/-! ## Immediate commands by row -/

/-- R171, R193: the last byte of an interface sequence: nothing is decoded while a break goes on, and it is discarded while the
interface inbound queue is full. Log entry 23. -/
def interfaceCommand (code tag : Byte) (params : List Byte) (s : State) : State :=
  if s.ifl.inBreak then s
  else if Config.interfacePlaces ≤ s.ifl.inbound.length then linkError .overrun s
  else if paramsMatch code params then sequenceArrives code tag false params s
  else s

/-- R169: an immediate command of code arriving from a port with its parameters. -/
def commandArrives (code : Byte) (a : Arrival) (params : List Byte) (s : State) : State :=
  match a.port with
  | .console => consoleFrame code a.tag false params s
  | .interface => interfaceCommand code a.tag params s

end Sys2Proof.Machine
end

