-- ==== Sys2Proof/Machine/Events.lean ====
section
/-! DEFINITION. Events that are no command: power-on release, the sensors, the mechanism's signals, the completion of a check, the
expiry of the line hold timer, and the composer's own placements. -/

namespace Sys2Proof.Machine

/-! ## Power-on release (R95, R167, R197) -/

/-- R93, R95: the hold-reason set at power-on release: what the sensors show, and WHEEL UNDEFINED. -/
def sensorHolds (x : Sensors) : Holds where
  coverOpen := x.coverOpen
  wheelAbsent := false
  wheelUndefined := true
  pitchChanged := false
  paperReleased := x.paperReleased
  ribbonOut := x.ribbonOut
  tapeOut := x.tapeOut
  paperOut := x.paperOut

/-- R73's table order. -/
def holdOrder : List Hold :=
  [.coverOpen, .wheelAbsent, .wheelUndefined, .pitchChanged, .paperReleased, .ribbonOut, .tapeOut, .paperOut]

/-- R95: the sequencer at power-on release: homing has started unless the cover is open. -/
def powerOnSequencer (x : Sensors) : Sequencer :=
  { Sequencer.powerOn with
    holds := sensorHolds x
    motion := if x.coverOpen then .rest else .homeCarriage
    homingRequest := x.coverOpen }

/-- R94: the MECH reports of the reasons set at power-on release, in the table's order. -/
def powerOnReports (q : Sequencer) : ReportQueue :=
  ((holdOrder.filter q.holds.get).map fun h => (⟨.mech (.joined h) q.holds q.state, 0, true⟩ : Record)).foldl
    ReportQueue.add ReportQueue.empty

/-- Power-on release: every block at its power-on values, the sensors sampled. The level of TXREADY is the board's and the queue of
waiting commands is the model's: both stay. -/
def powerOn (x : Sensors) (s : State) : State :=
  let q := powerOnSequencer x
  let s1 := { State.reset with
    seq := q
    con := { State.reset.con with reports := powerOnReports q }
    ifl := { State.reset.ifl with txReady := s.ifl.txReady }
    pending := s.pending }
  { s1 with disp := { image := buildImage 32 s1, attn := true } }

/-! ## Sensors (R93, R106) -/

/-- R93: a sensor's reason joins. -/
def sensorJoins (h : Hold) (s : State) : State := joinHold h s

/-- R93, R72: a sensor's reason leaves, and the begin test is made. -/
def sensorLeaves (h : Hold) (s : State) : State := settle false (leaveHold h s)

/-- R90, R93: the cover opens; a homing in progress is to start over. -/
def coverOpened (s : State) : State :=
  joinHold .coverOpen (if s.seq.homing then requestHoming s else s)

/-- R86, R93: the cover closes: the homing request is set. -/
def coverClosed (s : State) : State := settle false (leaveHold .coverOpen (requestHoming s))

/-- R106: the paper release lever closes: the memory is cleared before the reason leaves. -/
def leverClosed (s : State) : State := sensorLeaves .paperReleased (clearMemory s)

/-! ## The mechanism's signals -/

/-- What a signal of the mechanism changed, and the begin tests it lets be made. A correction that it ended lets others go on. -/
def afterSignal (before after : State) : State := settle (correctionEnded before after) after

/-- R81: a settled signal. -/
def settledEvent (axis : Axis) (s : State) : State := afterSignal s (settledMotion axis s)

/-- R82: a motion's limit expires. -/
def expiryEvent (s : State) : State := afterSignal s (failMotion s)

/-- R83: the index pulse. -/
def pulseEvent (code : Nat) (s : State) : State := afterSignal s (pulseSeen code s)

/-- R87: the carriage home signal. -/
def homeEvent (s : State) : State := afterSignal s (homeSignal s)

/-- R87: the homing index search ends without the index. -/
def searchExpiryEvent (s : State) : State :=
  if s.seq.motion = .homeWheel then afterSignal s (indexNotFound s) else s

/-! ## Other events -/

/-- R49: is the waiting head command a RETURN or RETURN FLUSH of LINE mode? -/
def returnWaits (s : State) : Bool :=
  s.arb.headWaiting && s.comp.mode == .line &&
    (match s.head with
      | some (_, it) => (match it.cmd with
        | .ret _ => true
        | _ => false)
      | none => false)

/-- R140, R49: a check completes, and a RETURN that waits for it is tried again. -/
def checkEvent (s : State) : State :=
  let s1 := completeCheck s
  settleIfQueued s (if returnWaits s1 then tryHead s1 else s1)

/-- R177: the running timer expires: the takeover request is set, and the timer is STOPPED. -/
def timerExpiry (s : State) : State :=
  if s.arb.timer.isSome then { s with arb := { s.arb with timer := none, takeover := true } } else s

/-- The composer's own placements carried out now (R62, R63, R121, R178, R182), and what follows from them: the begin tests, and
more when a correction has ended or the print line has become FREE. -/
def placementEvent (f : State → State) (s : State) : State :=
  let s1 := f s
  settle (correctionEnded s s1 || (s.comp.printLine.isSome && s1.comp.printLine.isNone)) s1

end Sys2Proof.Machine
end

