-- ==== Sys2Proof/Machine/LinkRows.lean ====
section
/-! DEFINITION. Meanings of the rows POWER_ON_RELEASE to DISPLAY_SELECT_RELEASE, REPLY_LAST_BYTE_CLOCKED and BREAK_END. A row whose
event cannot happen in a state (a byte of a transaction that is not in progress) leaves it as it is: log entry 2. -/

namespace Sys2Proof.Machine

/-- The outcome of an event that took s to s': the line hold timer, and the one rebuild of the display (R176, R159). -/
def done (s s' : State) : Host.Outcome State Fault Refusal := .next (finish s s')

/-- POWER_ON_RELEASE (R95, R167, R197). -/
def execPowerOnRelease (x : Sensors) (s : State) : Host.Outcome State Fault Refusal := .next (powerOn x s)

/-- QUEUED_COMMAND_ARRIVAL (R170, R184). Bit 0 of the flags byte is the notify flag. -/
def execQueuedCommandArrival (f : ConsoleFrame) (s : State) : Host.Outcome State Fault Refusal :=
  done s (consoleFrame f.code f.tag (f.flags.getLsbD 0) f.params s)

/-- CONSOLE_SELECT_RELEASE (R184, R188). -/
def execConsoleSelectRelease (moment : ReleaseMoment) (s : State) : Host.Outcome State Fault Refusal :=
  .next { s with con := releaseSelect moment s.con }

/-- CONSOLE_OVERRUN (R186). -/
def execConsoleOverrun (s : State) : Host.Outcome State Fault Refusal := .next { s with con := s.con.overrunSelect }

/-- INTERFACE_BYTE (R191 to R194). -/
def execInterfaceByte (rx : RxFrame) (s : State) : Host.Outcome State Fault Refusal := done s (receive rx s)

/-- BREAK (R193). -/
def execBreakDetected (s : State) : Host.Outcome State Fault Refusal := done s (breakDetected s)

/-- IMPLIED_RETURN_FLUSH (R182). -/
def execImpliedReturnFlush (s : State) : Host.Outcome State Fault Refusal := done s (placementEvent tryFlush s)

/-- TXREADY_ASSERTED (R195): the board's line takes a level; the transmitter tests when it is asserted. -/
def execTxreadyAsserted (level : Bool) (s : State) : Host.Outcome State Fault Refusal :=
  .next { s with ifl := { s.ifl with txReady := level }.beginFrame }

/-- REPORT_FRAME_END (R195). -/
def execReportFrameEnd (s : State) : Host.Outcome State Fault Refusal := .next { s with ifl := s.ifl.frameEnd }

/-- DISPLAY_SELECT (R161). -/
def execDisplaySelect (s : State) : Host.Outcome State Fault Refusal :=
  .next { s with dlink := s.dlink.select s.disp.image }

/-- WINDOW_FETCH (R162). -/
def execWindowFetch (s : State) : Host.Outcome State Fault Refusal :=
  match s.dlink.awaiting with
  | some t => .next { s with dlink := s.dlink.firstByte t .awaitParameter s.dlink.continuous }
  | none => .next s

/-- WINDOW_FETCH_PARAMETER (R162, R163). -/
def execWindowFetchParameter (param : Byte) (s : State) : Host.Outcome State Fault Refusal :=
  .next { s with dlink := s.dlink.parameter param }

/-- CONTINUE_FETCH (R163). -/
def execContinueFetch (first : Byte) (s : State) : Host.Outcome State Fault Refusal :=
  match s.dlink.awaiting, s.dlink.continuous, isDisplayCode first with
  | some t, some start, false => .next { s with dlink := s.dlink.firstByte t (.cells start 1) (some start) }
  | _, _, _ => .next s

/-- STATUS_FETCH (R165, R160): display ATTN is lowered; when a rebuild came after the select it is up again at the end of the fetch,
since the record sent is not the current one (log entry 50). -/
def execStatusFetch (s : State) : Host.Outcome State Fault Refusal :=
  match s.dlink.awaiting with
  | some t =>
    .next { s with
      dlink := s.dlink.firstByte t .statusRecord s.dlink.continuous
      disp := { s.disp with attn := decide (t.snapshot ≠ s.disp.image) } }
  | none => .next s

/-- STOP (R164). -/
def execStopFetch (s : State) : Host.Outcome State Fault Refusal :=
  match s.dlink.awaiting with
  | some t => .next { s with dlink := s.dlink.firstByte t .filler none }
  | none => .next s

/-- DISPLAY_NO_COMMAND (R166). -/
def execDisplayNoCommand (first : Byte) (s : State) : Host.Outcome State Fault Refusal :=
  match s.dlink.awaiting, s.dlink.continuous, first == 0xA1 || first == 0xA2 with
  | some t, none, false => .next { s with dlink := s.dlink.firstByte t .filler none }
  | _, _, _ => .next s

/-- DISPLAY_SELECT_RELEASE (R161). -/
def execDisplaySelectRelease (s : State) : Host.Outcome State Fault Refusal :=
  .next { s with dlink := { s.dlink with txn := none } }

/-- REPLY_LAST_BYTE_CLOCKED (R188). -/
def execReplyLastByteClocked (s : State) : Host.Outcome State Fault Refusal := .next { s with con := lastByteClocked s.con }

/-- BREAK_END (R193). -/
def execBreakEnd (s : State) : Host.Outcome State Fault Refusal := .next { s with ifl := { s.ifl with inBreak := false } }

end Sys2Proof.Machine
end

