-- ==== Sys2Proof/Machine/CommandRows.lean ====
section
/-! DEFINITION. Meanings of the rows of the immediate commands, WORD_CHECK to RESET_ENGINE: a frame or a sequence with the command's
code arrives (R169). Where two rows share a code, the row puts its own selecting parameter in front. -/

namespace Sys2Proof.Machine

/-- WORD_CHECK (R151). -/
def execWordCheck (a : Arrival) (s : State) : Host.Outcome State Fault Refusal :=
  done s (commandArrives 0x71 a a.params s)

/-- ECHO (R180). -/
def execEcho (a : Arrival) (s : State) : Host.Outcome State Fault Refusal :=
  done s (commandArrives 0x65 a a.params s)

/-- LINK_FORMAT (R190). -/
def execLinkFormat (a : Arrival) (s : State) : Host.Outcome State Fault Refusal :=
  done s (commandArrives 0x66 a a.params s)

/-- PEEK (R188). -/
def execPeek (a : Arrival) (s : State) : Host.Outcome State Fault Refusal :=
  done s (commandArrives 0x70 a a.params s)

/-- TAKE (R188). -/
def execTakeReport (a : Arrival) (s : State) : Host.Outcome State Fault Refusal :=
  done s (commandArrives 0x74 a a.params s)

/-- STATUS (R186). -/
def execStatus (a : Arrival) (s : State) : Host.Outcome State Fault Refusal :=
  done s (commandArrives 0x73 a a.params s)

/-- RESUME (R91). -/
def execResume (a : Arrival) (s : State) : Host.Outcome State Fault Refusal :=
  done s (commandArrives 0x78 a a.params s)

/-- CLEAR_FAULT (R85). -/
def execClearFault (a : Arrival) (s : State) : Host.Outcome State Fault Refusal :=
  done s (commandArrives 0x63 a a.params s)

/-- CONTINUE (R92). -/
def execContinueCmd (a : Arrival) (s : State) : Host.Outcome State Fault Refusal :=
  done s (commandArrives 0x6E a a.params s)

/-- CANCEL_PENDING (R70, R65). -/
def execCancelPending (a : Arrival) (s : State) : Host.Outcome State Fault Refusal :=
  done s (commandArrives 0x6B a a.params s)

/-- ACCEPT (R147). -/
def execAccept (a : Arrival) (s : State) : Host.Outcome State Fault Refusal :=
  done s (commandArrives 0x61 a (0 :: a.params) s)

/-- ACCEPT_AND_LEARN (R148). -/
def execAcceptAndLearn (a : Arrival) (s : State) : Host.Outcome State Fault Refusal :=
  done s (commandArrives 0x61 a (1 :: a.params) s)

/-- USER_WORD_ADD (R149). -/
def execUserWordAdd (a : Arrival) (s : State) : Host.Outcome State Fault Refusal :=
  done s (commandArrives 0x75 a (0 :: a.params) s)

/-- USER_WORD_REMOVE (R150). -/
def execUserWordRemove (a : Arrival) (s : State) : Host.Outcome State Fault Refusal :=
  done s (commandArrives 0x75 a (1 :: a.params) s)

/-- REJECT_WORD_ADD (R149). -/
def execRejectWordAdd (a : Arrival) (s : State) : Host.Outcome State Fault Refusal :=
  done s (commandArrives 0x76 a (0 :: a.params) s)

/-- REJECT_WORD_REMOVE (R150). -/
def execRejectWordRemove (a : Arrival) (s : State) : Host.Outcome State Fault Refusal :=
  done s (commandArrives 0x76 a (1 :: a.params) s)

/-- LIST_CLEAR (R150). -/
def execListClear (a : Arrival) (s : State) : Host.Outcome State Fault Refusal :=
  done s (commandArrives 0x6C a a.params s)

/-- WHEEL_DEFINE (R3, R4, R5, R8). -/
def execWheelDefine (a : Arrival) (s : State) : Host.Outcome State Fault Refusal :=
  done s (commandArrives 0x64 a a.params s)

/-- WHEEL_MAP (R6, R7). -/
def execWheelMap (a : Arrival) (s : State) : Host.Outcome State Fault Refusal :=
  done s (commandArrives 0x6D a a.params s)

/-- DISPLAY_WIDTH (R157). -/
def execDisplayWidth (a : Arrival) (s : State) : Host.Outcome State Fault Refusal :=
  done s (commandArrives 0x77 a a.params s)

/-- REMOTE_HOLD (R175). -/
def execRemoteHold (a : Arrival) (s : State) : Host.Outcome State Fault Refusal :=
  done s (commandArrives 0x79 a (1 :: a.params) s)

/-- RELEASE (R175). -/
def execRelease (a : Arrival) (s : State) : Host.Outcome State Fault Refusal :=
  done s (commandArrives 0x79 a (0 :: a.params) s)

/-- HOLD_TIME (R176). -/
def execHoldTime (a : Arrival) (s : State) : Host.Outcome State Fault Refusal :=
  done s (commandArrives 0x68 a a.params s)

/-- ATTN_LEVEL (R187). -/
def execAttnLevel (a : Arrival) (s : State) : Host.Outcome State Fault Refusal :=
  done s (commandArrives 0x6F a a.params s)

/-- RESET_ENGINE (R196). -/
def execResetEngine (a : Arrival) (s : State) : Host.Outcome State Fault Refusal :=
  done s (commandArrives 0x7A a a.params s)

end Sys2Proof.Machine
end

