-- ==== Sys2Proof/Machine/MechanismRows.lean ====
section
/-! DEFINITION. Meanings of the rows SETTLED_SIGNAL to LIFT_PLACEMENT. -/

namespace Sys2Proof.Machine

/-- SETTLED_SIGNAL (R81, R83, R74 to R79). -/
def execSettledSignal (axis : Axis) (s : State) : Host.Outcome State Fault Refusal := done s (settledEvent axis s)

/-- MOTION_LIMIT_EXPIRY (R82, R84). -/
def execMotionLimitExpiry (s : State) : Host.Outcome State Fault Refusal := done s (expiryEvent s)

/-- INDEX_PULSE (R83, R87, R88): the hub code is what the hub reads, should this pulse end a homing's search. -/
def execIndexPulse (hubCode : Fin 64) (s : State) : Host.Outcome State Fault Refusal := done s (pulseEvent hubCode.val s)

/-- CARRIAGE_HOME (R87, R82). -/
def execCarriageHome (s : State) : Host.Outcome State Fault Refusal := done s (homeEvent s)

/-- INDEX_SEARCH_EXPIRY (R87). -/
def execIndexSearchExpiry (s : State) : Host.Outcome State Fault Refusal := done s (searchExpiryEvent s)

/-- COVER_OPENS (R93, R90). -/
def execCoverOpens (s : State) : Host.Outcome State Fault Refusal := done s (coverOpened s)

/-- COVER_CLOSES (R93, R86). -/
def execCoverCloses (s : State) : Host.Outcome State Fault Refusal := done s (coverClosed s)

/-- PAPER_END (R93). -/
def execPaperEnd (s : State) : Host.Outcome State Fault Refusal := done s (sensorJoins .paperOut s)

/-- PAPER_PRESENT (R93). -/
def execPaperPresent (s : State) : Host.Outcome State Fault Refusal := done s (sensorLeaves .paperOut s)

/-- PAPER_RELEASE_LEVER_OPENS (R93). -/
def execPaperReleaseLeverOpens (s : State) : Host.Outcome State Fault Refusal := done s (sensorJoins .paperReleased s)

/-- PAPER_RELEASE_LEVER_CLOSES (R93, R106). -/
def execPaperReleaseLeverCloses (s : State) : Host.Outcome State Fault Refusal := done s (leverClosed s)

/-- RIBBON_END (R93). -/
def execRibbonEnd (s : State) : Host.Outcome State Fault Refusal := done s (sensorJoins .ribbonOut s)

/-- RIBBON_REPLACED (R93). -/
def execRibbonReplaced (s : State) : Host.Outcome State Fault Refusal := done s (sensorLeaves .ribbonOut s)

/-- TAPE_END (R93). -/
def execTapeEnd (s : State) : Host.Outcome State Fault Refusal := done s (sensorJoins .tapeOut s)

/-- TAPE_REPLACED (R93). -/
def execTapeReplaced (s : State) : Host.Outcome State Fault Refusal := done s (sensorLeaves .tapeOut s)

/-- CHECK_COMPLETION (R140 to R144, R151). -/
def execCheckCompletion (s : State) : Host.Outcome State Fault Refusal := done s (checkEvent s)

/-- LINE_HOLD_TIMER_EXPIRY (R177). -/
def execLineHoldTimerExpiry (s : State) : Host.Outcome State Fault Refusal := done s (timerExpiry s)

/-- TAKEOVER (R178). -/
def execTakeover (s : State) : Host.Outcome State Fault Refusal := done s (placementEvent tryTakeover s)

/-- PRINT_LINE_FEEDING (R62). -/
def execPrintLineFeeding (s : State) : Host.Outcome State Fault Refusal := done s (placementEvent feedPrintLine s)

/-- CLOSING_PLACEMENTS (R63). -/
def execClosingPlacements (s : State) : Host.Outcome State Fault Refusal := done s (placementEvent closePrintLine s)

/-- LIFT_PLACEMENT (R121 to R123). -/
def execLiftPlacement (s : State) : Host.Outcome State Fault Refusal := done s (placementEvent correctionWork s)

end Sys2Proof.Machine
end

