-- ==== Sys2Proof/Machine/TakeRows.lean ====
section
/-! DEFINITION. Meanings of the take rows, CHAR to SPELL_REPORTS: the composer tries the head command of the granted inbound queue
when it is the row's own. Where one catalogue command has a row for each value of its first parameter, a row is its own value's, and
any of them meets a value that is none of the rows' (it is refused with BAD PARAMETER). Log entries 1 and 2. -/

namespace Sys2Proof.Machine

/-- The commands of row CHAR. -/
def isChar : QCmd → Bool
  | .char _ => true
  | _ => false

/-- CHAR (R30, R31). -/
def execChar (s : State) : Host.Outcome State Fault Refusal := .next (takeRow isChar s)

/-- The commands of row SPACE. -/
def isSpace : QCmd → Bool
  | .space => true
  | _ => false

/-- SPACE (R32, R33). -/
def execSpace (s : State) : Host.Outcome State Fault Refusal := .next (takeRow isSpace s)

/-- The commands of row TAB. -/
def isTab : QCmd → Bool
  | .tab => true
  | _ => false

/-- TAB (R34). -/
def execTab (s : State) : Host.Outcome State Fault Refusal := .next (takeRow isTab s)

/-- The commands of row BACKSPACE. -/
def isBackspace : QCmd → Bool
  | .backspace => true
  | _ => false

/-- BACKSPACE (R35). -/
def execBackspace (s : State) : Host.Outcome State Fault Refusal := .next (takeRow isBackspace s)

/-- The commands of row MICRO_LEFT. -/
def isMicroLeft : QCmd → Bool
  | .micro n => n != 1
  | _ => false

/-- MICRO_LEFT (R36). -/
def execMicroLeft (s : State) : Host.Outcome State Fault Refusal := .next (takeRow isMicroLeft s)

/-- The commands of row MICRO_RIGHT. -/
def isMicroRight : QCmd → Bool
  | .micro n => n != 0
  | _ => false

/-- MICRO_RIGHT (R36). -/
def execMicroRight (s : State) : Host.Outcome State Fault Refusal := .next (takeRow isMicroRight s)

/-- The commands of row INDEX. -/
def isIndexCmd : QCmd → Bool
  | .indexDown => true
  | _ => false

/-- INDEX (R37). -/
def execIndexCmd (s : State) : Host.Outcome State Fault Refusal := .next (takeRow isIndexCmd s)

/-- The commands of row REVERSE_INDEX. -/
def isReverseIndex : QCmd → Bool
  | .reverseIndex => true
  | _ => false

/-- REVERSE_INDEX (R37). -/
def execReverseIndex (s : State) : Host.Outcome State Fault Refusal := .next (takeRow isReverseIndex s)

/-- The commands of row RETURN. -/
def isRet : QCmd → Bool
  | .ret n => n != 1
  | _ => false

/-- RETURN (R38, R49). -/
def execRet (s : State) : Host.Outcome State Fault Refusal := .next (takeRow isRet s)

/-- The commands of row RETURN_FLUSH. -/
def isReturnFlush : QCmd → Bool
  | .ret n => n != 0
  | _ => false

/-- RETURN_FLUSH (R38, R49). -/
def execReturnFlush (s : State) : Host.Outcome State Fault Refusal := .next (takeRow isReturnFlush s)

/-- The commands of row BOLD_ON. -/
def isBoldOn : QCmd → Bool
  | .bold n => n != 0
  | _ => false

/-- BOLD_ON (R40). -/
def execBoldOn (s : State) : Host.Outcome State Fault Refusal := .next (takeRow isBoldOn s)

/-- The commands of row BOLD_OFF. -/
def isBoldOff : QCmd → Bool
  | .bold n => n != 1
  | _ => false

/-- BOLD_OFF (R40). -/
def execBoldOff (s : State) : Host.Outcome State Fault Refusal := .next (takeRow isBoldOff s)

/-- The commands of row UNDERLINE_ON. -/
def isUnderlineOn : QCmd → Bool
  | .underline n => n != 0
  | _ => false

/-- UNDERLINE_ON (R40). -/
def execUnderlineOn (s : State) : Host.Outcome State Fault Refusal := .next (takeRow isUnderlineOn s)

/-- The commands of row UNDERLINE_OFF. -/
def isUnderlineOff : QCmd → Bool
  | .underline n => n != 1
  | _ => false

/-- UNDERLINE_OFF (R40). -/
def execUnderlineOff (s : State) : Host.Outcome State Fault Refusal := .next (takeRow isUnderlineOff s)

/-- The commands of row MARGIN_RELEASE. -/
def isMarginRelease : QCmd → Bool
  | .marginRelease => true
  | _ => false

/-- MARGIN_RELEASE (R41). -/
def execMarginRelease (s : State) : Host.Outcome State Fault Refusal := .next (takeRow isMarginRelease s)

/-- The commands of row CENTER. -/
def isCenter : QCmd → Bool
  | .center => true
  | _ => false

/-- CENTER (R42). -/
def execCenter (s : State) : Host.Outcome State Fault Refusal := .next (takeRow isCenter s)

/-- The commands of row ALIGN_RIGHT. -/
def isAlignRight : QCmd → Bool
  | .alignRight => true
  | _ => false

/-- ALIGN_RIGHT (R42). -/
def execAlignRight (s : State) : Host.Outcome State Fault Refusal := .next (takeRow isAlignRight s)

/-- The commands of row CORRECT. -/
def isCorrect : QCmd → Bool
  | .correct => true
  | _ => false

/-- CORRECT (R113, R118, R119). -/
def execCorrect (s : State) : Host.Outcome State Fault Refusal := .next (takeRow isCorrect s)

/-- The commands of row WORD_CORRECT. -/
def isWordCorrect : QCmd → Bool
  | .wordCorrect => true
  | _ => false

/-- WORD_CORRECT (R114, R118, R119). -/
def execWordCorrect (s : State) : Host.Outcome State Fault Refusal := .next (takeRow isWordCorrect s)

/-- The commands of row LINE_CORRECT. -/
def isLineCorrect : QCmd → Bool
  | .lineCorrect => true
  | _ => false

/-- LINE_CORRECT (R113, R118, R119). -/
def execLineCorrect (s : State) : Host.Outcome State Fault Refusal := .next (takeRow isLineCorrect s)

/-- The commands of row LIFT_CHARACTER. -/
def isLiftCharacter : QCmd → Bool
  | .liftCharacter _ => true
  | _ => false

/-- LIFT_CHARACTER (R128). -/
def execLiftCharacter (s : State) : Host.Outcome State Fault Refusal := .next (takeRow isLiftCharacter s)

/-- The commands of row RELOCATE. -/
def isRelocate : QCmd → Bool
  | .relocate => true
  | _ => false

/-- RELOCATE (R129). -/
def execRelocate (s : State) : Host.Outcome State Fault Refusal := .next (takeRow isRelocate s)

/-- The commands of row LEFT_MARGIN. -/
def isLeftMargin : QCmd → Bool
  | .leftMargin _ => true
  | _ => false

/-- LEFT_MARGIN (R43). -/
def execLeftMargin (s : State) : Host.Outcome State Fault Refusal := .next (takeRow isLeftMargin s)

/-- The commands of row RIGHT_MARGIN. -/
def isRightMargin : QCmd → Bool
  | .rightMargin _ => true
  | _ => false

/-- RIGHT_MARGIN (R44). -/
def execRightMargin (s : State) : Host.Outcome State Fault Refusal := .next (takeRow isRightMargin s)

/-- The commands of row TAB_SET. -/
def isTabSet : QCmd → Bool
  | .tabStop n _ => n != 1 && n != 2
  | _ => false

/-- TAB_SET (R45). -/
def execTabSet (s : State) : Host.Outcome State Fault Refusal := .next (takeRow isTabSet s)

/-- The commands of row TAB_CLEAR. -/
def isTabClear : QCmd → Bool
  | .tabStop n _ => n != 0 && n != 2
  | _ => false

/-- TAB_CLEAR (R45). -/
def execTabClear (s : State) : Host.Outcome State Fault Refusal := .next (takeRow isTabClear s)

/-- The commands of row TAB_CLEAR_ALL. -/
def isTabClearAll : QCmd → Bool
  | .tabStop n _ => n != 0 && n != 1
  | _ => false

/-- TAB_CLEAR_ALL (R45). -/
def execTabClearAll (s : State) : Host.Outcome State Fault Refusal := .next (takeRow isTabClearAll s)

/-- The commands of row SPACING. -/
def isSpacing : QCmd → Bool
  | .spacing _ => true
  | _ => false

/-- SPACING (R46). -/
def execSpacing (s : State) : Host.Outcome State Fault Refusal := .next (takeRow isSpacing s)

/-- The commands of row IMPRESSION. -/
def isImpression : QCmd → Bool
  | .impression _ => true
  | _ => false

/-- IMPRESSION (R14, R46). -/
def execImpression (s : State) : Host.Outcome State Fault Refusal := .next (takeRow isImpression s)

/-- The commands of row AUTO_RETURN_ZONE. -/
def isAutoReturnZone : QCmd → Bool
  | .autoReturnZone _ => true
  | _ => false

/-- AUTO_RETURN_ZONE (R46). -/
def execAutoReturnZone (s : State) : Host.Outcome State Fault Refusal := .next (takeRow isAutoReturnZone s)

/-- The commands of row STRETCH_LIMIT. -/
def isStretchLimit : QCmd → Bool
  | .stretchLimit _ => true
  | _ => false

/-- STRETCH_LIMIT (R46). -/
def execStretchLimit (s : State) : Host.Outcome State Fault Refusal := .next (takeRow isStretchLimit s)

/-- The commands of row JUSTIFY. -/
def isJustify : QCmd → Bool
  | .justify _ => true
  | _ => false

/-- JUSTIFY (R46). -/
def execJustify (s : State) : Host.Outcome State Fault Refusal := .next (takeRow isJustify s)

/-- The commands of row MODE. -/
def isModeCmd : QCmd → Bool
  | .mode _ => true
  | _ => false

/-- MODE (R47). -/
def execModeCmd (s : State) : Host.Outcome State Fault Refusal := .next (takeRow isModeCmd s)

/-- The commands of row SPELL_MODE. -/
def isSpellMode : QCmd → Bool
  | .spellMode _ => true
  | _ => false

/-- SPELL_MODE (R145). -/
def execSpellMode (s : State) : Host.Outcome State Fault Refusal := .next (takeRow isSpellMode s)

/-- The commands of row SPELL_REPORTS. -/
def isSpellReports : QCmd → Bool
  | .spellReports _ => true
  | _ => false

/-- SPELL_REPORTS (R145). -/
def execSpellReports (s : State) : Host.Outcome State Fault Refusal := .next (takeRow isSpellReports s)

end Sys2Proof.Machine
end

