-- ==== Sys2Proof/Machine/Dispatch.lean ====
section
/-! DEFINITION. The meaning of each command: one arm for each row of the table. -/

namespace Sys2Proof.Machine

def exec (i : Instr) (s : State) : Host.Outcome State Fault Refusal :=
  match i with
  | .powerOnRelease sensors => Sys2Proof.Machine.execPowerOnRelease sensors s
  | .queuedCommandArrival frame => Sys2Proof.Machine.execQueuedCommandArrival frame s
  | .consoleSelectRelease moment => Sys2Proof.Machine.execConsoleSelectRelease moment s
  | .consoleOverrun => Sys2Proof.Machine.execConsoleOverrun s
  | .interfaceByte rx => Sys2Proof.Machine.execInterfaceByte rx s
  | .breakDetected => Sys2Proof.Machine.execBreakDetected s
  | .impliedReturnFlush => Sys2Proof.Machine.execImpliedReturnFlush s
  | .txreadyAsserted level => Sys2Proof.Machine.execTxreadyAsserted level s
  | .reportFrameEnd => Sys2Proof.Machine.execReportFrameEnd s
  | .displaySelect => Sys2Proof.Machine.execDisplaySelect s
  | .windowFetch => Sys2Proof.Machine.execWindowFetch s
  | .windowFetchParameter param => Sys2Proof.Machine.execWindowFetchParameter param s
  | .continueFetch first => Sys2Proof.Machine.execContinueFetch first s
  | .statusFetch => Sys2Proof.Machine.execStatusFetch s
  | .stopFetch => Sys2Proof.Machine.execStopFetch s
  | .displayNoCommand first => Sys2Proof.Machine.execDisplayNoCommand first s
  | .displaySelectRelease => Sys2Proof.Machine.execDisplaySelectRelease s
  | .settledSignal axis => Sys2Proof.Machine.execSettledSignal axis s
  | .motionLimitExpiry => Sys2Proof.Machine.execMotionLimitExpiry s
  | .indexPulse hubCode => Sys2Proof.Machine.execIndexPulse hubCode s
  | .carriageHome => Sys2Proof.Machine.execCarriageHome s
  | .indexSearchExpiry => Sys2Proof.Machine.execIndexSearchExpiry s
  | .coverOpens => Sys2Proof.Machine.execCoverOpens s
  | .coverCloses => Sys2Proof.Machine.execCoverCloses s
  | .paperEnd => Sys2Proof.Machine.execPaperEnd s
  | .paperPresent => Sys2Proof.Machine.execPaperPresent s
  | .paperReleaseLeverOpens => Sys2Proof.Machine.execPaperReleaseLeverOpens s
  | .paperReleaseLeverCloses => Sys2Proof.Machine.execPaperReleaseLeverCloses s
  | .ribbonEnd => Sys2Proof.Machine.execRibbonEnd s
  | .ribbonReplaced => Sys2Proof.Machine.execRibbonReplaced s
  | .tapeEnd => Sys2Proof.Machine.execTapeEnd s
  | .tapeReplaced => Sys2Proof.Machine.execTapeReplaced s
  | .checkCompletion => Sys2Proof.Machine.execCheckCompletion s
  | .lineHoldTimerExpiry => Sys2Proof.Machine.execLineHoldTimerExpiry s
  | .takeover => Sys2Proof.Machine.execTakeover s
  | .printLineFeeding => Sys2Proof.Machine.execPrintLineFeeding s
  | .closingPlacements => Sys2Proof.Machine.execClosingPlacements s
  | .liftPlacement => Sys2Proof.Machine.execLiftPlacement s
  | .char => Sys2Proof.Machine.execChar s
  | .space => Sys2Proof.Machine.execSpace s
  | .tab => Sys2Proof.Machine.execTab s
  | .backspace => Sys2Proof.Machine.execBackspace s
  | .microLeft => Sys2Proof.Machine.execMicroLeft s
  | .microRight => Sys2Proof.Machine.execMicroRight s
  | .indexCmd => Sys2Proof.Machine.execIndexCmd s
  | .reverseIndex => Sys2Proof.Machine.execReverseIndex s
  | .ret => Sys2Proof.Machine.execRet s
  | .returnFlush => Sys2Proof.Machine.execReturnFlush s
  | .boldOn => Sys2Proof.Machine.execBoldOn s
  | .boldOff => Sys2Proof.Machine.execBoldOff s
  | .underlineOn => Sys2Proof.Machine.execUnderlineOn s
  | .underlineOff => Sys2Proof.Machine.execUnderlineOff s
  | .marginRelease => Sys2Proof.Machine.execMarginRelease s
  | .center => Sys2Proof.Machine.execCenter s
  | .alignRight => Sys2Proof.Machine.execAlignRight s
  | .correct => Sys2Proof.Machine.execCorrect s
  | .wordCorrect => Sys2Proof.Machine.execWordCorrect s
  | .lineCorrect => Sys2Proof.Machine.execLineCorrect s
  | .liftCharacter => Sys2Proof.Machine.execLiftCharacter s
  | .relocate => Sys2Proof.Machine.execRelocate s
  | .leftMargin => Sys2Proof.Machine.execLeftMargin s
  | .rightMargin => Sys2Proof.Machine.execRightMargin s
  | .tabSet => Sys2Proof.Machine.execTabSet s
  | .tabClear => Sys2Proof.Machine.execTabClear s
  | .tabClearAll => Sys2Proof.Machine.execTabClearAll s
  | .spacing => Sys2Proof.Machine.execSpacing s
  | .impression => Sys2Proof.Machine.execImpression s
  | .autoReturnZone => Sys2Proof.Machine.execAutoReturnZone s
  | .stretchLimit => Sys2Proof.Machine.execStretchLimit s
  | .justify => Sys2Proof.Machine.execJustify s
  | .modeCmd => Sys2Proof.Machine.execModeCmd s
  | .spellMode => Sys2Proof.Machine.execSpellMode s
  | .spellReports => Sys2Proof.Machine.execSpellReports s
  | .wordCheck arrival => Sys2Proof.Machine.execWordCheck arrival s
  | .echo arrival => Sys2Proof.Machine.execEcho arrival s
  | .linkFormat arrival => Sys2Proof.Machine.execLinkFormat arrival s
  | .peek arrival => Sys2Proof.Machine.execPeek arrival s
  | .takeReport arrival => Sys2Proof.Machine.execTakeReport arrival s
  | .status arrival => Sys2Proof.Machine.execStatus arrival s
  | .resume arrival => Sys2Proof.Machine.execResume arrival s
  | .clearFault arrival => Sys2Proof.Machine.execClearFault arrival s
  | .continueCmd arrival => Sys2Proof.Machine.execContinueCmd arrival s
  | .cancelPending arrival => Sys2Proof.Machine.execCancelPending arrival s
  | .accept arrival => Sys2Proof.Machine.execAccept arrival s
  | .acceptAndLearn arrival => Sys2Proof.Machine.execAcceptAndLearn arrival s
  | .userWordAdd arrival => Sys2Proof.Machine.execUserWordAdd arrival s
  | .userWordRemove arrival => Sys2Proof.Machine.execUserWordRemove arrival s
  | .rejectWordAdd arrival => Sys2Proof.Machine.execRejectWordAdd arrival s
  | .rejectWordRemove arrival => Sys2Proof.Machine.execRejectWordRemove arrival s
  | .listClear arrival => Sys2Proof.Machine.execListClear arrival s
  | .wheelDefine arrival => Sys2Proof.Machine.execWheelDefine arrival s
  | .wheelMap arrival => Sys2Proof.Machine.execWheelMap arrival s
  | .displayWidth arrival => Sys2Proof.Machine.execDisplayWidth arrival s
  | .remoteHold arrival => Sys2Proof.Machine.execRemoteHold arrival s
  | .release arrival => Sys2Proof.Machine.execRelease arrival s
  | .holdTime arrival => Sys2Proof.Machine.execHoldTime arrival s
  | .attnLevel arrival => Sys2Proof.Machine.execAttnLevel arrival s
  | .resetEngine arrival => Sys2Proof.Machine.execResetEngine arrival s
  | .replyLastByteClocked => Sys2Proof.Machine.execReplyLastByteClocked s
  | .breakEnd => Sys2Proof.Machine.execBreakEnd s

end Sys2Proof.Machine
end

