-- ==== Sys2Proof/Safety.lean ====
section
/-! DEFINITION. What holds of the engine at every moment, in the terms the statements use: bounds of its collections, the margins,
the positions, the wheel table, the word lists, the grant, the display image; and when the mechanism stands still. -/

namespace Sys2Proof.Machine

/-! ## Invariants -/

/-- R67, R139, R170, R171, R189: no queue holds more than its places. -/
def State.QueuesBounded (s : State) : Prop :=
  s.con.inbound.length ≤ 16 ∧ s.ifl.inbound.length ≤ 48 ∧ s.con.reports.records.length ≤ 32 ∧
    s.ifl.reports.records.length ≤ 32 ∧ s.seq.queue.length ≤ 64 ∧ s.spell.checks.length ≤ 8

/-- R97: at most 4 line slots, at most 512 records in all, and no two slots of one vertical position. -/
def State.MemoryBounded (s : State) : Prop :=
  s.mem.length ≤ 4 ∧ recordCount s.mem ≤ 512 ∧ (s.mem.map LineSlot.vpos).Nodup

/-- R43, R44: RM stands at least 120 units right of LM and of a pending LM, and within the travel. -/
def State.MarginsApart (s : State) : Prop :=
  s.comp.lm + 120 ≤ s.comp.rm ∧ (∀ lm ∈ s.comp.pendingLm, lm + 120 ≤ s.comp.rm) ∧ s.comp.rm ≤ 1800

/-- R22, R24: the print point and every entry of the compose line lie within the travel, the line holds at most 200 entries, and the
logical vertical position is within its range. -/
def State.OnThePaper (s : State) : Prop :=
  s.comp.printPoint ≤ 1800 ∧ s.comp.vpos ≤ 1023 ∧ s.entries.length ≤ 200 ∧ ∀ e ∈ s.entries, e.pos + e.width ≤ 1800

/-- R45: the tab stops: at most 32, in increasing order, within the travel. -/
def State.StopsInOrder (s : State) : Prop :=
  s.comp.tabs.length ≤ 32 ∧ s.comp.tabs.Pairwise (· < ·) ∧ ∀ t ∈ s.comp.tabs, t ≤ 1800

/-- R1, R2: eight slots, a hundred petals each, every code from 1 to 63, and no code in two slots. -/
def State.WheelsDistinct (s : State) : Prop :=
  s.wheels.length = 8 ∧ (∀ d, some d ∈ s.wheels → 1 ≤ d.code ∧ d.code ≤ 63 ∧ d.petals.length = 100) ∧
    (s.wheels.filterMap fun o => o.map Descriptor.code).Nodup

/-- R149: both lists within their places, neither holding a word twice, and no word in both. -/
def State.ListsDisjoint (s : State) : Prop :=
  s.spell.userWords.length ≤ 64 ∧ s.spell.rejectWords.length ≤ 16 ∧
    s.spell.userWords.Nodup ∧ s.spell.rejectWords.Nodup ∧ ∀ w ∈ s.spell.userWords, w ∉ s.spell.rejectWords

/-- R176: the conditions under which the line hold timer runs. -/
def State.TimerConditions (s : State) : Prop :=
  s.arb.grant = some .interface ∧ s.comp.line.isSome = true ∧ s.ifl.inbound = [] ∧ s.con.inbound ≠ []

/-- R173, R176: while a line is open, the grant belongs to its source port; a running timer has its conditions. -/
def State.LineHeld (s : State) : Prop :=
  (∀ l ∈ s.comp.line, s.arb.grant = some l.port) ∧ (s.arb.timer ≠ none → s.TimerConditions)

/-- R159: the image is what a rebuild would make of the state now, so that a fetch shows every field as its owner has it. -/
def State.DisplayCurrent (s : State) : Prop := buildImage s.disp.image.width s = s.disp.image

/-- R155: the cursor cell of the state. -/
def State.cursor (s : State) : Nat := cursorCell (cellEntries s) s.comp.printPoint

/-- R156, R157: the width is one of the five, and the cursor cell lies in the window. -/
def State.CursorInView (s : State) : Prop :=
  s.disp.image.width ∈ [16, 20, 24, 32, 40] ∧ s.disp.image.first ≤ s.cursor ∧
    s.cursor ≤ s.disp.image.first + s.disp.image.width - 1

/-- R46, R176, R187: the settings that carry a range are within it. -/
def State.SettingsInRange (s : State) : Prop :=
  2 ≤ s.comp.spacing ∧ s.comp.spacing ≤ 6 ∧ s.comp.zone ≤ 240 ∧ s.comp.smax ≤ 60 ∧ 1 ≤ s.arb.holdTime ∧ s.arb.holdTime ≤ 60 ∧
    1 ≤ s.con.attnLevel ∧ s.con.attnLevel ≤ 32

/-- R25, R39, R139, R153, R189, R192: the counters are within their ranges. -/
def State.CountersInRange (s : State) : Prop :=
  (1 ≤ s.comp.groupCounter ∧ s.comp.groupCounter ≤ 65535) ∧ s.comp.lineCounter ≤ 65535 ∧
    (1 ≤ s.spell.nextId ∧ s.spell.nextId ≤ 255) ∧ s.disp.image.generation ≤ 255 ∧ s.con.reports.lost ≤ 255 ∧
    s.ifl.reports.lost ≤ 255 ∧ s.ifl.framingCount ≤ 255 ∧ s.ifl.parityCount ≤ 255 ∧ s.ifl.overrunCount ≤ 255

/-- R67, R71, R82, R84: a motion of the entry in flight runs exactly while an entry is moving; in FAULT nothing runs; the attempts of
a motion in progress are below 3, and never above. -/
def State.MechanismSound (s : State) : Prop :=
  (s.seq.moving = true ↔ s.seq.motion ≠ .rest ∧ s.seq.homing = false) ∧ (s.seq.fault = true → s.seq.motion = .rest) ∧
    (s.seq.motion ≠ .rest → s.seq.attempts ≤ 2) ∧ s.seq.attempts ≤ 3

/-! ## The mechanism standing or busy (R72) -/

/-- R72: the sequencer makes no begin test now: it is in FAULT, homing, or moving an entry. -/
def State.Engaged (s : State) : Prop := s.seq.fault = true ∨ s.seq.homing = true ∨ s.seq.moving = true

/-- R72, R86: with nothing moving, no homing may start and the head of the strike queue, if there is one, is held. -/
def State.NothingToBegin (s : State) : Prop :=
  (s.seq.homingRequest = true → s.seq.holds.coverOpen = true) ∧ ∀ e ∈ s.seq.queue.head?, s.seq.holds.holds e = true

/-- R26, R62, R118, R178, R182: nothing waits for places: the print line is FREE, no correction is in progress, no flush and no
takeover is pending, no head command waits. -/
def State.NobodyWaits (s : State) : Prop :=
  s.comp.printLine = none ∧ s.comp.correction = none ∧ s.arb.flushPending = false ∧ s.arb.takeover = false ∧
    s.arb.headWaiting = false

/-! ## What an event leaves -/

/-- R176: the timer t has once an event that began in s has made every other change of it, which left u: stopped with the conditions
false, started afresh by the event that makes them true. R181: an interface reset that makes them true, emptying the queue with an
implied RETURN FLUSH left waiting, leaves it as it is (stopped; log entry 22). -/
def TimerFollows (s u t : State) : Prop :=
  let reset := u.arb.flushPending = true ∧ s.ifl.inbound ≠ []
  (¬u.TimerConditions → t.arb.timer = none) ∧
    (u.TimerConditions → ¬s.TimerConditions → ¬reset → t.arb.timer = some u.arb.holdTime) ∧
    (u.TimerConditions → s.TimerConditions ∨ reset → t.arb.timer = u.arb.timer)

/-- R159, R160: one rebuild of the display image for the event (log entry 34); when anything differs, the generation number steps on
and ATTN is raised. -/
def DisplayFollows (u t : State) : Prop :=
  let new := buildImage u.disp.image.width u
  (new = u.disp.image → t.disp = u.disp) ∧
    (new ≠ u.disp.image → t.disp = ⟨{ new with generation := (u.disp.image.generation + 1) % 256 }, true⟩)

/-- An event that began in s leaves t: t is u, what the event's own rules make, but for the line hold timer and the display, which
follow by R176 and by R159 and R160. What the timer does at an interface reset is log entry 22, and that each event makes one rebuild is
log entry 34: both are the model's readings, and every statement that says Leaves rests on them. -/
def Leaves (s t u : State) : Prop :=
  t = { u with arb := { u.arb with timer := t.arb.timer }, disp := t.disp } ∧ TimerFollows s u t ∧ DisplayFollows u t

/-- R173: the grant after a grant decision. -/
def State.granted (u : State) : State :=
  { u with arb := { u.arb with grant := if u.grantFixed = true then u.arb.grant else u.boundaryGrant } }

/-- R170, R171: a queued command placed at the tail of a port's queue; a grant decision follows when the queue was empty. -/
def State.arrived (s : State) (p : Port) (it : QItem) : State :=
  match p with
  | .console =>
    let u := { s with con := { s.con with inbound := s.con.inbound ++ [it] } }
    if s.con.inbound = [] then u.granted else u
  | .interface =>
    let u := { s with ifl := { s.ifl with inbound := s.ifl.inbound ++ [it] } }
    if s.ifl.inbound = [] then u.granted else u

/-- The head item of a port's queue gone, and no head command waiting. -/
def State.headGone (u : State) (p : Port) : State :=
  match p with
  | .console => { u with con := { u.con with inbound := u.con.inbound.drop 1 }, arb := { u.arb with headWaiting := false } }
  | .interface => { u with ifl := { u.ifl with inbound := u.ifl.inbound.drop 1 }, arb := { u.arb with headWaiting := false } }

/-- R26, R27: the entries of a take, with the MARK of its notify flag behind them, at the tail of the strike queue. -/
def State.placed (u : State) (p : Port) (it : QItem) (es : List SEntry) : State :=
  { u with seq := { u.seq with
      queue := u.seq.queue ++ es ++ (if it.notify = true then [.mark p it.tag .done] else []) } }

/-- R26, R27, R173: a queued command of port p taken, with the entries it places; u is what its own rule has made of the rest. -/
def State.taken (u : State) (p : Port) (it : QItem) (es : List SEntry) : State := ((u.placed p it es).headGone p).granted

/-- R180: with echo ON, a text command of the console taken is reported to the interface. -/
def State.echoed (u : State) (p : Port) (it : QItem) (command : Byte) (arg : Option Byte) : State :=
  if p = .console ∧ u.ifl.echo = true then report u .interface it.tag (.echo command arg) else u

/-- R28: a queued command refused: its REFUSED report, the console's last refusal reason, the head item gone; nothing else. -/
def State.refusedTake (s : State) (p : Port) (it : QItem) (r : Reason) (d : RefusalDetail) : State :=
  let u := report (s.headGone p) p it.tag (.refused r (commandCode it.cmd) d)
  State.granted { u with comp := { u.comp with lastRefusal := if p = .console then some r else u.comp.lastRefusal } }

/-- R26: the head command waits. -/
def State.waiting (s : State) : State := { s with arb := { s.arb with headWaiting := true } }

/-- R26, R27, R72: there are places for n entries and the command's MARK, and the sequencer makes no begin test when entries join. -/
def State.Room (s : State) (it : QItem) (n : Nat) : Prop :=
  s.seq.queue.length + n + (if it.notify = true then 1 else 0) ≤ 64 ∧ (n ≠ 0 ∨ it.notify = true → s.Engaged)

/-- R184, R185, R188: the console unit once a frame has arrived and its reply is fixed. An earlier TAKE not clocked to its last byte
was cut short, and sets the frame-length error flag: log entry 38, the model's reading, on which every statement that says answered
rests. -/
def State.answered (u : State) (bytes : List Byte) (take : Bool) : State :=
  { u with con := { u.con with
      frameError := u.con.frameError || u.con.txn == .replying true
      reply := bytes
      txn := .replying take } }

/-! ## Lines (R38, R39) -/

/-- R39: the compose line closed: margin release and the alignment request cleared, a pending LM applied, the words ended. -/
def State.lineClosed (s : State) (counted : Bool) : State :=
  match s.comp.line with
  | none => s
  | some _ =>
    { s with
      spell := (endWords s).spell
      comp := { s.comp with
        line := none
        marginRelease := false
        alignment := none
        lm := s.comp.pendingLm.getD s.comp.lm
        pendingLm := none
        lineCounter := if counted then (s.comp.lineCounter + 1) % 65536 else s.comp.lineCounter } }

/-- R38, R43: the LM a RETURN goes to: a pending LM, when the line it closes holds one. -/
def State.marginAfter (s : State) : Nat := if s.comp.line = none then s.comp.lm else s.comp.pendingLm.getD s.comp.lm

/-- R38: the vertical position a RETURN goes to. -/
def State.vposAfter (s : State) : Nat := min 1023 (s.comp.vpos + s.comp.spacing)

/-- R38: a RETURN in DIRECT mode, but for what it places. -/
def State.returned (s : State) : State :=
  let u := s.lineClosed true
  { u with comp := { u.comp with printPoint := s.marginAfter, vpos := s.vposAfter } }

/-- R38: what a RETURN in DIRECT mode places: the MOVE to LM and the FEED. -/
def State.returnStrikes (s : State) : List SEntry := [.move s.marginAfter, .feed s.comp.spacing s.vposAfter]

/-- Entries at the tail of the strike queue. -/
def State.queued (u : State) (es : List SEntry) : State := { u with seq := { u.seq with queue := u.seq.queue ++ es } }

/-! ## The interface link (R181, R190, R191) -/

/-- R191, R192: a character received without an error, outside a break, with a place in the queue: its data byte in the format it is
read in. -/
def State.GoodByte (s : State) (rx : RxFrame) (b : Byte) : Prop :=
  let f := (s.ifl.format :: s.ifl.earlierFormats).getD rx.since .n8
  s.ifl.inBreak = false ∧ rx.stop = true ∧ parityAgrees f rx.data rx.parity = true ∧ s.ifl.inbound.length < 48 ∧
    dataBits f rx.data = b

/-- R191: the bytes of a command sequence as a host sends them in a format: ESC, or FS with the notify flag; the code; the tag and the
parameters, split in a 7-bit format. -/
def sequenceBytes (f : LineFormat) (notify : Bool) (code tag : Byte) (params : List Byte) : List Byte :=
  (if notify then 0x1C else 0x1B) :: code :: (if f.seven then (tag :: params).flatMap splitByte else tag :: params)

/-- R152: is it a WORD CHECK of the interface? -/
def Check.ofHost (c : Check) : Bool :=
  match c.kind with
  | .wordCheck .interface _ => true
  | _ => false

/-- R181: what an interface reset does to every block but the interface's open line and the grant: the interface queues and the
sequence under assembly emptied, its error flags cleared, its attributes off, its correction ended and its checks gone, the timer
and the takeover request cleared. -/
def State.interfaceCleared (s : State) : State :=
  { s with
    ifl := { s.ifl with
      inbound := [], reports := ReportQueue.empty, framing := false, parity := false, overrun := false,
      framingCount := 0, parityCount := 0, overrunCount := 0, assembly := .idle,
      tx := s.ifl.tx.map fun x => { x with queued := false } }
    comp := { s.comp with
      interfaceBold := false, interfaceUnderline := false,
      correction := s.comp.correction.filter fun c => c.port != .interface }
    spell := { s.spell with checks := dropChecks Check.ofHost s.spell.checks }
    arb := { s.arb with
      takeover := false, timer := none, headWaiting := s.arb.headWaiting && s.arb.grant != some .interface } }

/-- R181: an interface grant given up and decided anew, unless an implied RETURN FLUSH waits. -/
def State.regranted (u : State) : State :=
  if u.arb.grant = some .interface ∧ u.arb.flushPending = false then
    State.granted { u with arb := { u.arb with grant := none } }
  else u

end Sys2Proof.Machine
end

