-- ==== Sys2Proof/Certificates/Slice0/Obligations.lean ====
section
/-! DEFINITION. The statements for the provers, rule by rule. Leaves s t u (Safety.lean) reads: the event that began in s leaves u, but
for the line hold timer (R176) and the display (R159, R160), which follow by their own rules; what it says of the timer at an interface
reset is log entry 22, and of one rebuild for each event log entry 34. u.answered bytes take reads: a console frame is answered; what it
says of an earlier transaction left open is log entry 38. These three are the model's readings, in every statement that uses them. -/

section

open Sys2Proof Sys2Proof.Machine

/-! ## The machine, power-on, and what holds at every moment -/

/-- A step runs the command at the front of the queue on the state with the queue's rest. That an empty queue leaves the engine as it
is, is the model's choice (log entry 7). -/
def Obligations.StepRunsFrontCommand : Prop :=
  (∀ (c : Instr) (rest : List Instr) (s : State), s.pending = c :: rest → step s = exec c { s with pending := rest }) ∧
    ∀ s : State, s.pending = [] → step s = .next s

/-- R48, R93 to R95, R131, R152, R167, R197: power-on release gives every block its power-on values, whatever stood before; the hold
reasons are what the sensors show and WHEEL UNDEFINED, each with an urgent MECH report; homing starts unless the cover is open. The
model's own are: that the level of TXREADY and the queue of waiting rows stay as they are (log entries 3 and 7), that the homing
request is clear once the homing has started (log entry 42), that no break is in progress (log entry 31), and that no character comes
in under an earlier format (log entry 32). -/
def Obligations.PowerOnRelease : Prop :=
  ∀ (x : Sensors) (s : State), ∃ t, exec (.powerOnRelease x) s = .next t ∧
    t.seq =
      {
        queue := [], inflight := none, motion := if x.coverOpen then .rest else .homeCarriage, fault := false,
        holds := ⟨x.coverOpen, false, true, false, x.paperReleased, x.ribbonOut, x.tapeOut, x.paperOut⟩,
        mounted := 0, carriage := 0, petal := 0, vpos := 0, attempts := 0, homingRequest := x.coverOpen } ∧
    t.con.reports.records =
      (([(x.coverOpen, Hold.coverOpen), (true, .wheelUndefined), (x.paperReleased, .paperReleased),
          (x.ribbonOut, .ribbonOut), (x.tapeOut, .tapeOut), (x.paperOut, .paperOut)].filter Prod.fst).map fun h =>
        ⟨.mech (.joined h.2) t.seq.holds (if x.coverOpen then .blocked else .homing), 0, true⟩) ∧
    t.con = {
      inbound := [], reports := { records := t.con.reports.records, loss := false, lost := 0, urgentLost := false },
      frameError := false, overrun := false, attnLevel := 1, txn := .none, reply := [] } ∧
    t.ifl = {
      inbound := [], reports := { records := [], loss := false, lost := 0, urgentLost := false }, rate := .b9600,
      format := .n8, earlierFormats := [], framing := false, parity := false, overrun := false, framingCount := 0,
      parityCount := 0, overrunCount := 0, assembly := .idle, tx := none, txReady := s.ifl.txReady, echo := false,
      inBreak := false } ∧
    t.dlink = { continuous := none, txn := none } ∧
    t.comp = {
      line := none, printLine := none, printPoint := 120, vpos := 0, lm := 120, pendingLm := none, rm := 1020,
      tabs := [], mode := .direct, justify := false, spacing := 2, impression := .normal, zone := 0, smax := 24,
      consoleBold := false, consoleUnderline := false, interfaceBold := false, interfaceUnderline := false,
      marginRelease := false, alignment := none, groupCounter := 1, lineCounter := 0, correction := none,
      lastRefusal := none } ∧
    t.arb = {
      grant := none, remoteHold := false, holdTime := 10, timer := none, takeover := false, flushPending := false,
      headWaiting := false } ∧
    t.wheels = List.replicate 8 none ∧ t.mem = [] ∧
    t.spell = {
      words := [], checks := [], nextId := 1, userWords := [], rejectWords := [], mode := .off,
      interfaceReports := false } ∧
    t.disp.image.width = 32 ∧ t.disp.image.first = 0 ∧ t.disp.image.generation = 0 ∧ t.disp.attn = true ∧
    t.disp.image.cells = Cell.blank true :: List.replicate 31 (Cell.blank false) ∧ t.DisplayCurrent ∧
    t.pending = s.pending

/-- State.reset is what power-on release leaves with every sensor quiet (log entry 3). -/
def Sys2Proof.Claims.ResetIsPowerOn : Prop :=
  exec (.powerOnRelease ⟨false, false, false, false, false⟩) State.reset = .next State.reset

/-- The state after reset meets every invariant that the next statements show kept. -/
def Sys2Proof.Claims.ResetMeetsInvariants : Prop :=
  State.reset.QueuesBounded ∧ State.reset.MemoryBounded ∧ State.reset.MarginsApart ∧ State.reset.OnThePaper ∧
    State.reset.StopsInOrder ∧ State.reset.WheelsDistinct ∧ State.reset.ListsDisjoint ∧ State.reset.LineHeld ∧
    State.reset.DisplayCurrent ∧ State.reset.CursorInView ∧ State.reset.SettingsInRange ∧ State.reset.CountersInRange ∧
    State.reset.MechanismSound

/-- State.reset is what power-on release leaves with every sensor quiet, and it meets every
invariant that the statements after it show kept. -/
def Obligations.ResetMeetsInvariants : Prop :=
  Sys2Proof.Claims.ResetIsPowerOn ∧ Sys2Proof.Claims.ResetMeetsInvariants

/-- R67, R139, R170, R171, R189: every step keeps every queue within its places. -/
def Obligations.QueuesStayBounded : Prop :=
  ∀ s t : State, s.QueuesBounded → step s = .next t → t.QueuesBounded

/-- R97, R98, R101, R102: every step keeps at most 4 line slots, of 4 vertical positions, with at most 512 records in all. -/
def Obligations.MemoryStaysBounded : Prop :=
  ∀ s t : State, s.MemoryBounded → step s = .next t → t.MemoryBounded

/-- R22, R24, R43 to R45: every step keeps RM at least 120 units from LM, and the print point, the entries, the tab stops and the
vertical position within the paper. -/
def Obligations.PositionsStayOnThePaper : Prop :=
  ∀ s t : State, s.MarginsApart → s.OnThePaper → s.StopsInOrder → step s = .next t →
    t.MarginsApart ∧ t.OnThePaper ∧ t.StopsInOrder

/-- R1, R2, R4, R149: every step keeps the wheel table's codes and the two word lists' words apart. -/
def Sys2Proof.Claims.TablesStayDistinct : Prop :=
  (∀ s t : State, s.WheelsDistinct → step s = .next t → t.WheelsDistinct) ∧
    ∀ s t : State, s.ListsDisjoint → step s = .next t → t.ListsDisjoint

/-- R25, R39, R46, R139, R153, R176, R187, R189, R192: every step keeps every ranged setting and counter within its range. -/
def Sys2Proof.Claims.SettingsStayInRange : Prop :=
  (∀ s t : State, s.SettingsInRange → step s = .next t → t.SettingsInRange) ∧
    ∀ s t : State, s.CountersInRange → step s = .next t → t.CountersInRange

/-- R1, R2, R4, R25, R39, R46, R139, R149, R153, R176, R187, R189, R192: every step keeps the tables distinct and
every ranged setting and counter in its range. -/
def Obligations.TablesAndSettingsStay : Prop :=
  Sys2Proof.Claims.TablesStayDistinct ∧ Sys2Proof.Claims.SettingsStayInRange

/-- R173, R176: every step keeps the grant with the source port of an open line, and the line hold timer with its conditions. -/
def Obligations.LineKeepsTheGrant : Prop :=
  ∀ s t : State, s.LineHeld → step s = .next t → t.LineHeld

/-- R155, R156, R159: every step leaves the image as a rebuild would draw it, with the cursor cell in the window. -/
def Obligations.DisplayStaysCurrent : Prop :=
  ∀ s t : State, s.DisplayCurrent → s.CursorInView → step s = .next t → t.DisplayCurrent ∧ t.CursorInView

/-- R67, R71, R82, R84: every step keeps the mechanism sound: a motion of the entry in flight runs exactly while it is moving, nothing
runs in FAULT, and a motion in progress has fewer than three failed attempts. -/
def Obligations.MechanismStaysSound : Prop :=
  ∀ s t : State, s.MechanismSound → step s = .next t → t.MechanismSound


/-! ## The console link -/

/-- R189: what a report queue makes of a report that arrives: joined; lost and counted; a LOST record in the one free place, which
counts the arriving report too; or a LOST record ahead of it. -/
def Obligations.ReportJoinsOrIsLost : Prop :=
  ∀ (q : ReportQueue) (r : Record),
    (q.loss = false → q.records.length < 32 → q.add r = { q with records := q.records ++ [r] }) ∧
    (q.loss = false → 32 ≤ q.records.length → q.add r = ⟨q.records, true, 1, r.urgent⟩) ∧
    (q.loss = true → 32 ≤ q.records.length →
      q.add r = ⟨q.records, true, min 255 (q.lost + 1), q.urgentLost || r.urgent⟩) ∧
    (q.loss = true → q.records.length = 31 →
      q.add r = ⟨q.records ++ [⟨.lost (min 255 (q.lost + 1)), 0, q.urgentLost || r.urgent⟩], false, 0, false⟩) ∧
    (q.loss = true → q.records.length < 31 → q.add r = ⟨q.records ++ [⟨.lost q.lost, 0, q.urgentLost⟩, r], false, 0, false⟩)

/-- R170, R184, R185: a console frame that no immediate command's row stands for: UNKNOWN COMMAND, BAD PARAMETER for a wrong count,
QUEUE FULL, or placed at the tail of the console inbound queue with a grant decision when that was empty; BAD PARAMETER too for ACCEPT,
USER WORD, REJECT WORD and REMOTE HOLD without a first parameter of 0 or 1. -/
def Sys2Proof.Claims.QueuedCommandArrives : Prop :=
  ∀ (s : State) (f : ConsoleFrame),
    (codeClass f.code = none →
      ∃ t, exec (.queuedCommandArrival f) s = .next t ∧ Leaves s t (s.answered [2, 1, 2] false)) ∧
    (codeClass f.code = some .queued → parseQueued f.code f.params = none →
      ∃ t, exec (.queuedCommandArrival f) s = .next t ∧ Leaves s t (s.answered [2, 1, 1] false)) ∧
    (f.code ∈ ([0x61, 0x75, 0x76, 0x79] : List Byte) → f.params.head? ≠ some 0 → f.params.head? ≠ some 1 →
      ∃ t, exec (.queuedCommandArrival f) s = .next t ∧ Leaves s t (s.answered [2, 1, 1] false)) ∧
    ∀ cmd, parseQueued f.code f.params = some cmd →
      (16 ≤ s.con.inbound.length →
        ∃ t, exec (.queuedCommandArrival f) s = .next t ∧ Leaves s t (s.answered [1, 0] false)) ∧
      (s.con.inbound.length < 16 →
        ∃ t, exec (.queuedCommandArrival f) s = .next t ∧
          Leaves s t ((s.arrived .console ⟨cmd, f.tag, f.flags.getLsbD 0⟩).answered [0, 0] false))

/-- R184, R186, R188: the select released before the frame or its reply is whole, or after extra bytes, sets the frame-length error
flag; just after the reply's last byte it sets none, unless a TAKE's last byte was never clocked; an overrun sets the overrun flag, and
its transaction has no reply. No report record is removed. The model's readings are: that a release at the exact end of the reply, with
a TAKE still pending, counts as cut short (log entry 21), and that an overrun which finds a TAKE still pending sets the frame-length
error flag too (log entry 38). -/
def Sys2Proof.Claims.SelectReleaseAndOverrun : Prop :=
  ∀ s : State,
    (∀ m, s.con.txn = .ignored → exec (.consoleSelectRelease m) s = .next { s with con := { s.con with txn := .none } }) ∧
    (∀ m, s.con.txn ≠ .ignored → m ≠ .atReplyEnd →
      exec (.consoleSelectRelease m) s = .next { s with con := { s.con with frameError := true, txn := .none } }) ∧
    (s.con.txn = .replying true →
      exec (.consoleSelectRelease .atReplyEnd) s = .next { s with con := { s.con with frameError := true, txn := .none } }) ∧
    (s.con.txn = .none ∨ s.con.txn = .replying false →
      exec (.consoleSelectRelease .atReplyEnd) s = .next { s with con := { s.con with txn := .none } }) ∧
    exec .consoleOverrun s = .next { s with con := { s.con with
      overrun := true, frameError := s.con.frameError || s.con.txn == .replying true, txn := .ignored, reply := [] } }

/-- R184 to R186: the bytes the engine sends in a console transaction: 0xFF during the frame bytes, then the reply, then 0xFF for every
extra byte; and 0xFF throughout a transaction begun too early. -/
def Sys2Proof.Claims.ConsoleBytesSent : Prop :=
  (∀ (c : ConsoleLink) (take : Bool) (frameBytes : Nat), c.txn = .replying take →
    (∀ place, place < frameBytes → c.byteAt frameBytes place = 0xFF) ∧
      (∀ k b, c.reply[k]? = some b → c.byteAt frameBytes (frameBytes + k) = b) ∧
      ∀ k, c.reply.length ≤ k → c.byteAt frameBytes (frameBytes + k) = 0xFF) ∧
  ∀ s : State, ∃ t, exec .consoleOverrun s = .next t ∧ ∀ frameBytes place, t.con.byteAt frameBytes place = 0xFF

/-- R170, R184 to R186, R188: what a console frame does when it arrives, what the release of the select and an overrun do, and the bytes
the engine sends. -/
def Obligations.FrameTransactions : Prop :=
  Sys2Proof.Claims.QueuedCommandArrives ∧ Sys2Proof.Claims.SelectReleaseAndOverrun ∧ Sys2Proof.Claims.ConsoleBytesSent

/-- R188: PEEK and TAKE answer the head record of the console report queue, or EMPTY; only the last reply byte of a TAKE takes the
record out of the queue. That a last byte clocked with no TAKE pending, which the link cannot show, changes nothing is log entry 2. -/
def Sys2Proof.Claims.PeekAndTake : Prop :=
  ∀ (s : State) (a : Arrival), a.port = .console → a.params = [] →
    (s.con.reports.records = [] →
      (∃ t, exec (.peek a) s = .next t ∧ Leaves s t (s.answered [5, 0] false)) ∧
      ∃ t, exec (.takeReport a) s = .next t ∧ Leaves s t (s.answered [5, 0] false)) ∧
    (∀ r rest, s.con.reports.records = r :: rest →
      (∃ t, exec (.peek a) s = .next t ∧ Leaves s t (s.answered ([4, byte r.bytes.length] ++ r.bytes) false)) ∧
      ∃ t, exec (.takeReport a) s = .next t ∧ Leaves s t (s.answered ([4, byte r.bytes.length] ++ r.bytes) true)) ∧
    (s.con.txn = .replying true → exec .replyLastByteClocked s = .next { s with con := { s.con with
      reports := { s.con.reports with records := s.con.reports.records.drop 1 }, txn := .replying false } }) ∧
    (s.con.txn ≠ .replying true → exec .replyLastByteClocked s = .next s)

/-- R186: STATUS answers sixteen bytes of the values before the clear, and clears both console flags and the interface error flags and
counts. That its first byte counts a TAKE still pending at the frame as cut short is log entry 38, the model's reading. -/
def Sys2Proof.Claims.StatusReply : Prop :=
  ∀ (s : State) (a : Arrival), a.port = .console → a.params = [] →
    ∃ t, exec (.status a) s = .next t ∧
      t.con.reply =
        [4, 16, byte ((if s.con.frameError || s.con.txn == .replying true then 1 else 0) + if s.con.overrun then 2 else 0),
          byte s.con.inbound.length, byte s.con.reports.records.length,
          byte ((if s.con.reports.loss then 1 else 0) + if s.con.reports.urgentLost then 2 else 0), byte s.con.reports.lost,
          byte ((if s.ifl.framing then 1 else 0) + (if s.ifl.parity then 2 else 0) + if s.ifl.overrun then 4 else 0),
          byte s.ifl.framingCount, byte s.ifl.parityCount, byte s.ifl.overrunCount, byte s.ifl.inbound.length,
          byte s.ifl.reports.records.length, byte s.con.attnLevel, byte s.ifl.rate.code, byte s.ifl.format.code,
          byte s.seq.state.code, byte s.seq.holds.toNat] ∧
      Leaves s t { s with
        con := { s.con with frameError := false, overrun := false, txn := .replying false, reply := t.con.reply }
        ifl := { s.ifl with
          framing := false, parity := false, overrun := false, framingCount := 0, parityCount := 0, overrunCount := 0 } }

/-- R186, R188: PEEK, TAKE with its last reply byte, and STATUS. -/
def Obligations.ReportsPulled : Prop :=
  Sys2Proof.Claims.PeekAndTake ∧ Sys2Proof.Claims.StatusReply

/-! ## The interface link -/

/-- R168, R191: a good byte outside a command sequence: a queued command of tag 0 for a text byte, the start of a sequence for ESC and
FS, and nothing for any other byte. -/
def Sys2Proof.Claims.InterfaceTextByte : Prop :=
  ∀ (s : State) (rx : RxFrame) (b : Byte), s.GoodByte rx b → s.ifl.assembly = .idle →
    ∃ t, exec (.interfaceByte rx) s = .next t ∧
      Leaves s t
        (if b = 0x1B then { s with ifl := { s.ifl with assembly := .code false } }
        else if b = 0x1C then { s with ifl := { s.ifl with assembly := .code true } }
        else if b = 0x20 then s.arrived .interface ⟨.space, 0, false⟩
        else if 0x21 ≤ b.toNat ∧ b.toNat ≤ 0x7E ∨ 0xA0 ≤ b.toNat then s.arrived .interface ⟨.char b, 0, false⟩
        else if b = 0x0D then s.arrived .interface ⟨.ret 0, 0, false⟩
        else if b = 0x09 then s.arrived .interface ⟨.tab, 0, false⟩
        else if b = 0x08 then s.arrived .interface ⟨.backspace, 0, false⟩
        else if b = 0x0A then s.arrived .interface ⟨.indexDown, 0, false⟩
        else s)

/-- R171, R190, R192: a character frame outside a break with its stop bit at space, with a wrong parity bit, or found with the inbound
queue full: the error's flag and count, the sequence under assembly discarded, and INTERFACE ERROR when the flag was clear. In a break
nothing is decoded (R193). That a frame in which several of these meet counts as one error, framing before parity and either before
overrun, is the model's choice (log entry 53). -/
def Sys2Proof.Claims.InterfaceErrors : Prop :=
  ∀ (s : State) (rx : RxFrame),
    let f := (s.ifl.format :: s.ifl.earlierFormats).getD rx.since .n8
    let good := parityAgrees f rx.data rx.parity
    let told (flag : Bool) (which : LinkError) (u : State) : State :=
      if flag then u
      else report u .console 0
        (.interfaceError which u.ifl.framing u.ifl.parity u.ifl.overrun u.ifl.framingCount u.ifl.parityCount u.ifl.overrunCount)
    (s.ifl.inBreak = true → ∃ t, exec (.interfaceByte rx) s = .next t ∧ Leaves s t s) ∧
    (s.ifl.inBreak = false → rx.stop = false →
      ∃ t, exec (.interfaceByte rx) s = .next t ∧
        Leaves s t (told s.ifl.framing .framing { s with ifl := { s.ifl with
          framing := true, framingCount := min 255 (s.ifl.framingCount + 1), assembly := .idle } })) ∧
    (s.ifl.inBreak = false → rx.stop = true → good = false →
      ∃ t, exec (.interfaceByte rx) s = .next t ∧
        Leaves s t (told s.ifl.parity .parity { s with ifl := { s.ifl with
          parity := true, parityCount := min 255 (s.ifl.parityCount + 1), assembly := .idle } })) ∧
    (s.ifl.inBreak = false → rx.stop = true → good = true → 48 ≤ s.ifl.inbound.length →
      ∃ t, exec (.interfaceByte rx) s = .next t ∧
        Leaves s t (told s.ifl.overrun .overrun { s with ifl := { s.ifl with
          overrun := true, overrunCount := min 255 (s.ifl.overrunCount + 1), assembly := .idle } }))

/-- R190, R192: the parity bit agrees with an even format when the ones of the data bits and it are even in number, with an odd format
when they are odd; a 7-bit format has seven data bits. -/
def Sys2Proof.Claims.ParityOfAFrame : Prop :=
  ∀ (b : Byte) (parity : Bool),
    let ones (n : Nat) : Nat := (List.range n).countP fun i => b.getLsbD i
    let sum (n : Nat) : Nat := (ones n + if parity then 1 else 0) % 2
    parityAgrees .n8 b parity = true ∧ (parityAgrees .e8 b parity = true ↔ sum 8 = 0) ∧
      (parityAgrees .o8 b parity = true ↔ sum 8 = 1) ∧ (parityAgrees .e7 b parity = true ↔ sum 7 = 0) ∧
      (parityAgrees .o7 b parity = true ↔ sum 7 = 1)

/-- R171, R190, R192: when the parity bit agrees, and what a character frame in error does. -/
def Obligations.InterfaceErrorsTaken : Prop :=
  Sys2Proof.Claims.InterfaceErrors ∧ Sys2Proof.Claims.ParityOfAFrame

/-- R190, R191: the bytes a host sends for a command sequence, decoded one after another in the format they were sent in, make exactly
that command arrive with its tag, notify flag and parameters: for every command code and every parameters whose count is right. -/
def Obligations.SequenceAssembles : Prop :=
  ∀ (s : State) (f : LineFormat) (notify : Bool) (code tag : Byte) (params : List Byte),
    s.ifl.assembly = .idle → (codeClass code).isSome = true → paramsMatch code params = true →
      (sequenceBytes f notify code tag params).foldl (fun u b => decodeByte f b u) s =
        sequenceArrives code tag notify params s

/-- R168, R191: the bytes of a command sequence one by one: the code byte; a tag or parameter byte that leaves the sequence
unfinished; the last byte of a queued command, which is placed; the last byte of a console-only command, refused NOT ALLOWED; the tag
of an unknown code, refused UNKNOWN COMMAND. -/
def Sys2Proof.Claims.SequenceSteps : Prop :=
  ∀ (s : State) (rx : RxFrame) (b : Byte), s.GoodByte rx b →
    let f := (s.ifl.format :: s.ifl.earlierFormats).getD rx.since .n8
    let u : State := { s with ifl := { s.ifl with assembly := .idle } }
    (∀ notify, s.ifl.assembly = .code notify → b ≠ 0x40 →
      ∃ t, exec (.interfaceByte rx) s = .next t ∧
        Leaves s t { s with ifl := { s.ifl with
          assembly := if (codeClass b).isSome then .body notify b [] none else .unknownTag b none } }) ∧
    (∀ code, s.ifl.assembly = .unknownTag code none → f.seven = false →
      ∃ t, exec (.interfaceByte rx) s = .next t ∧
        Leaves s t (report u .interface b (.refused .unknownCommand code .plain))) ∧
    ∀ notify code got tag params, s.ifl.assembly = .body notify code got none → f.seven = false → got ++ [b] = tag :: params →
      (paramsMatch code params = false →
        ∃ t, exec (.interfaceByte rx) s = .next t ∧
          Leaves s t { s with ifl := { s.ifl with assembly := .body notify code (got ++ [b]) none } }) ∧
      (paramsMatch code params = true → codeClass code = some .consoleOnly →
        ∃ t, exec (.interfaceByte rx) s = .next t ∧ Leaves s t (report u .interface tag (.refused .notAllowed code .plain))) ∧
      ∀ cmd, paramsMatch code params = true → codeClass code = some .queued → parseQueued code params = some cmd →
        ∃ t, exec (.interfaceByte rx) s = .next t ∧ Leaves s t (u.arrived .interface ⟨cmd, tag, notify⟩)

/-- R168, R191: what a good byte of the interface does, in text and in a command sequence. -/
def Obligations.StreamBytesTaken : Prop :=
  Sys2Proof.Claims.InterfaceTextByte ∧ Sys2Proof.Claims.SequenceSteps

/-- R181, R182, R193, R194: an interface reset, by a break (cause BREAK) or by the code byte 0x40 of the reset sequence (cause SEQUENCE,
whatever the notify flag): with no open line of the interface; with one in LINE mode, which is discarded; with one in DIRECT mode, ended
by an implied RETURN FLUSH at once when two places are free (here with the mechanism busy), or kept until they are; and with the implied
RETURN FLUSH of an earlier reset still waiting, when the line is kept and the effect is NONE. -/
def Sys2Proof.Claims.InterfaceResetMade : Prop :=
  ∀ (s s0 : State) (row : Instr) (cause : ResetCause),
    (row = .breakDetected ∧ cause = .brk ∧ s.ifl.inBreak = false ∧ s0 = { s with ifl := { s.ifl with inBreak := true } } ∨
      (∃ rx notify, row = .interfaceByte rx ∧ s.GoodByte rx 0x40 ∧ s.ifl.assembly = .code notify) ∧ cause = .sequence ∧ s0 = s) →
    let u := s0.interfaceCleared
    let told (e : LineEffect) (v : State) : State := report v .console 0 (.interfaceReset cause e)
    ((∀ l ∈ s.comp.line, l.port = .console) → ∃ t, exec row s = .next t ∧ Leaves s t (told .none u.regranted)) ∧
    ∀ l, s.comp.line = some l → l.port = .interface →
      (s.arb.flushPending = true → ∃ t, exec row s = .next t ∧ Leaves s t (told .none u)) ∧
      (s.arb.flushPending = false → s.comp.mode = .line →
        let v := u.lineClosed false
        ∃ t, exec row s = .next t ∧
          Leaves s t (told .discarded (State.regranted { v with comp := { v.comp with printPoint := v.comp.lm } }))) ∧
      (s.arb.flushPending = false → s.comp.mode = .direct → s.seq.queue.length ≤ 62 → s.Engaged →
        let v := u.returned.queued u.returnStrikes
        ∃ t, exec row s = .next t ∧
          Leaves s t (told .flushed (State.granted { v with arb := { v.arb with grant := none } }))) ∧
      (s.arb.flushPending = false → s.comp.mode = .direct → 62 < s.seq.queue.length →
        ∃ t, exec row s = .next t ∧ Leaves s t (told .flushed { u with arb := { u.arb with flushPending := true } }))

/-- R193: while the break lasts no second reset is made, and its end ends it. -/
def Sys2Proof.Claims.BreakLastsUntilItsEnd : Prop :=
  ∀ s : State,
    (s.ifl.inBreak = true → ∃ t, exec .breakDetected s = .next t ∧ Leaves s t s) ∧
      exec .breakEnd s = .next { s with ifl := { s.ifl with inBreak := false } }

/-- R181, R182, R193, R194: the interface reset, by a break or by the reset sequence. That the timer stays stopped at a reset that
leaves a flush waiting is log entry 22. -/
def Obligations.InterfaceIsReset : Prop :=
  Sys2Proof.Claims.InterfaceResetMade ∧ Sys2Proof.Claims.BreakLastsUntilItsEnd

/-- R182: the implied RETURN FLUSH of an interface reset is placed once two places are free: its MOVE and FEED, the line closed and
counted, the grant NONE and decided anew; not before. That it also carries out a takeover requested since the reset, with GRANT TAKEN,
is the model's reading (log entry 22); that the row changes nothing with no flush waiting is log entry 2. -/
def Sys2Proof.Claims.ImpliedFlushPlaced : Prop :=
  ∀ s : State, s.Engaged →
    let v := s.returned.queued s.returnStrikes
    let ended (w : State) : State := State.granted { w with arb := { w.arb with flushPending := false, grant := none } }
    (s.arb.flushPending = true → s.seq.queue.length ≤ 62 → s.arb.takeover = false →
      ∃ t, exec .impliedReturnFlush s = .next t ∧ Leaves s t (ended v)) ∧
    (∀ l, s.comp.line = some l → s.arb.flushPending = true → s.seq.queue.length ≤ 62 → s.arb.takeover = true →
      ∃ t, exec .impliedReturnFlush s = .next t ∧
        Leaves s t
          (ended (report { v with arb := { v.arb with takeover := false } } .interface 0 (.grantTaken l.vpos s.comp.mode)))) ∧
    (s.arb.flushPending = false ∨ 62 < s.seq.queue.length →
      ∃ t, exec .impliedReturnFlush s = .next t ∧ Leaves s t s)

/-- R177, R178: the expiry of the running timer sets the takeover request; the takeover, when it is first allowed, ends the interface's
line by an implied RETURN FLUSH (in LINE mode by a release flush left, once the print line is FREE), queues GRANT TAKEN to the
interface and decides the grant. The model's readings are: the expiry sets the request alone, and the takeover is a row of its own,
though it may be allowed at once (log entry 19); GRANT TAKEN stands behind the release's own reports (log entry 20); an implied RETURN
FLUSH that waits for the same line is served with it (log entry 22); an expiry of a timer that is stopped, which no engine shows,
changes nothing (log entry 2). -/
def Sys2Proof.Claims.TimerAndTakeover : Prop :=
  ∀ s : State,
    (s.arb.timer ≠ none →
      ∃ t, exec .lineHoldTimerExpiry s = .next t ∧ Leaves s t { s with arb := { s.arb with timer := none, takeover := true } }) ∧
    (s.arb.timer = none → ∃ t, exec .lineHoldTimerExpiry s = .next t ∧ Leaves s t s) ∧
    ∀ l, s.Engaged → s.arb.takeover = true → s.comp.correction = none → s.comp.line = some l →
      let told (v : State) : State :=
        let w := report { v with arb := { v.arb with takeover := false } } .interface 0 (.grantTaken l.vpos s.comp.mode)
        State.granted { w with arb := { w.arb with flushPending := false } }
      (s.comp.mode = .direct → s.seq.queue.length ≤ 62 →
        ∃ t, exec .takeover s = .next t ∧ Leaves s t (told (s.returned.queued s.returnStrikes))) ∧
      (s.comp.mode = .line → s.comp.printLine = none →
        ∃ t, exec .takeover s = .next t ∧ Leaves s t (told (release true .interface 0 false s))) ∧
      (s.comp.mode = .direct → 62 < s.seq.queue.length → ∃ t, exec .takeover s = .next t ∧ Leaves s t s)

/-- R177, R178, R182: the implied RETURN FLUSH of an interface reset, the line hold timer and the takeover. -/
def Obligations.ImpliedFlushAndTakeover : Prop :=
  Sys2Proof.Claims.ImpliedFlushPlaced ∧ Sys2Proof.Claims.TimerAndTakeover

/-- R195: with the transmitter idle, TXREADY asserted and a record waiting, a frame begins: the lead byte, then kind, tag, parameter
length and parameters, split in a 7-bit format; at the frame's end its record leaves the queue, unless a reset has emptied it, and the
next frame begins on the same terms. That a frame's end with no frame being sent, which the link cannot show, changes nothing is log
entry 2. -/
def Obligations.TransmitterSendsFrames : Prop :=
  ∀ (s : State) (level : Bool),
    let frame (r : Record) : TxFrame :=
      let rest := [byte r.body.kindCode, r.tag, byte r.body.params.length] ++ r.body.params
      ⟨0x1E :: (if s.ifl.format.seven then rest.flatMap fun b => [byte (0x30 + b.toNat / 16), byte (0x30 + b.toNat % 16)]
        else rest), true⟩
    (s.ifl.tx ≠ none ∨ level = false ∨ s.ifl.reports.records = [] →
      exec (.txreadyAsserted level) s = .next { s with ifl := { s.ifl with txReady := level } }) ∧
    (∀ r rest, s.ifl.tx = none → s.ifl.reports.records = r :: rest →
      exec (.txreadyAsserted true) s = .next { s with ifl := { s.ifl with txReady := true, tx := some (frame r) } }) ∧
    (s.ifl.tx = none → exec .reportFrameEnd s = .next s) ∧
    ∀ x records, s.ifl.tx = some x →
      records = (if x.queued then s.ifl.reports.records.drop 1 else s.ifl.reports.records) →
      exec .reportFrameEnd s = .next { s with ifl := { s.ifl with
        reports := { s.ifl.reports with records := records }
        tx := if s.ifl.txReady then records.head?.map frame else none } }

/-! ## The line display -/

/-- R161 to R164: the select takes the snapshot and its release ends the transaction; a window fetch, from a parameter byte with the
start cell in its low six bits and the continue flag in bit 7, streams the snapshot's cells from there, or filler for a start cell
outside the window; the flag turns the continuous-fetch state on, unless W has changed since the select. The model's readings are: a
select with a transaction in progress, which the link cannot show, changes nothing (log entry 2); the start cell is judged by the
snapshot's width (log entry 30); the fetch position is the place after the last byte that has a row (log entry 35). -/
def Sys2Proof.Claims.WindowFetchTaken : Prop :=
  ∀ s : State,
    (s.dlink.txn = none → exec .displaySelect s = .next { s with
      dlink := { s.dlink with txn := some ⟨s.disp.image, .awaitCommand, 0, false⟩ } }) ∧
    (∀ x, s.dlink.txn = some x → exec .displaySelect s = .next s) ∧
    exec .displaySelectRelease s = .next { s with dlink := { s.dlink with txn := none } } ∧
    (∀ i n w, s.dlink.txn = some ⟨i, .awaitCommand, n, w⟩ →
      exec .windowFetch s = .next { s with dlink := { s.dlink with txn := some ⟨i, .awaitParameter, 1, w⟩ } }) ∧
    ∀ i n w (param : Byte), s.dlink.txn = some ⟨i, .awaitParameter, n, w⟩ →
      (param.toNat % 64 < i.width →
        exec (.windowFetchParameter param) s = .next { s with
          dlink := ⟨if param.getLsbD 7 = true ∧ w = false then some (param.toNat % 64) else none,
            some ⟨i, .cells (param.toNat % 64) 2, 2, w⟩⟩ }) ∧
      (i.width ≤ param.toNat % 64 →
        exec (.windowFetchParameter param) s = .next { s with dlink := ⟨none, some ⟨i, .filler, 2, w⟩⟩ })

/-- R163, R164: with the continuous-fetch state on at start cell c, a first byte that carries none of the three codes streams this
transaction's cells from c; STOP turns the state off and is answered with filler. -/
def Sys2Proof.Claims.ContinueAndStop : Prop :=
  ∀ (s : State) (i : Image) (n : Nat) (w : Bool), s.dlink.txn = some ⟨i, .awaitCommand, n, w⟩ →
    (∀ c (first : Byte), s.dlink.continuous = some c → first ≠ 0xA1 → first ≠ 0xA2 → first ≠ 0xA3 →
      exec (.continueFetch first) s = .next { s with dlink := ⟨some c, some ⟨i, .cells c 1, 1, w⟩⟩ }) ∧
    exec .stopFetch s = .next { s with dlink := ⟨none, some ⟨i, .filler, 1, w⟩⟩ }

/-- R161 to R164: the transactions of the display link that carry the window, and STOP. -/
def Obligations.DisplayFetchesTaken : Prop :=
  Sys2Proof.Claims.WindowFetchTaken ∧ Sys2Proof.Claims.ContinueAndStop

/-- R160, R165: a STATUS FETCH lowers display ATTN when the record it sends is the current one, leaves the continuous-fetch state as it
stands, and sends the snapshot's status record, eleven bytes in the layout of 08_the_line_display of which the first is the generation
number, and then 0xFF; later bytes of the controller change nothing. That ATTN is high at its end when the image has changed since the
select is the model's reading of R160 (log entry 50). -/
def Obligations.StatusFetchTaken : Prop :=
  ∀ (s : State) (i : Image) (n : Nat) (w : Bool), s.dlink.txn = some ⟨i, .awaitCommand, n, w⟩ →
    ∃ t x, exec .statusFetch s = .next t ∧
      (i = s.disp.image → t = { s with disp := { s.disp with attn := false }, dlink := ⟨s.dlink.continuous, some x⟩ }) ∧
      (i ≠ s.disp.image → t = { s with disp := { s.disp with attn := true }, dlink := ⟨s.dlink.continuous, some x⟩ }) ∧
      (let r := i.status
        let bit (b : Bool) (n : Nat) : Nat := if b then n else 0
        let spelling : Nat := match r.spelling with
          | .off => 0
          | .alert => 4
          | .hold => 8
        let grant : Nat := match r.grant with
          | none => 0
          | some .console => 16
          | some .interface => 32
        let state : Nat := match r.sequencer with
          | .idle => 0
          | .running => 1
          | .blocked => 2
          | .homing => 3
          | .fault => 4
        let holds : Nat :=
          bit r.holds.coverOpen 1 + bit r.holds.wheelAbsent 2 + bit r.holds.wheelUndefined 4 + bit r.holds.pitchChanged 8
            + bit r.holds.paperReleased 16 + bit r.holds.ribbonOut 32 + bit r.holds.tapeOut 64 + bit r.holds.paperOut 128
        let units := (r.unitsToRm % 65536).toNat
        let bytes : List Byte := [byte i.generation,
          byte (bit (r.mode == .line) 1 + bit r.justify 2 + spelling + grant + bit r.lineOpen 64), byte state, byte holds,
          byte r.column, byte (units / 256), byte units, byte ((r.refusal.map Reason.code).getD 0), byte i.width,
          byte i.first, byte r.lineCells]
        ∀ k, x.byteAt k = (bytes[k]?).getD 0xFF) ∧
      ∀ b, exec .windowFetch t = .next t ∧ exec (.windowFetchParameter b) t = .next t ∧ exec (.continueFetch b) t = .next t ∧
        exec .statusFetch t = .next t ∧ exec .stopFetch t = .next t ∧ exec (.displayNoCommand b) t = .next t

/-- R166: with the continuous-fetch state off, STOP or any first byte but the two fetch codes is answered with 0xFF after the
snapshot's generation number, and the state is left off; nothing else changes and no report is made. -/
def Obligations.NoCommandTaken : Prop :=
  ∀ (s : State) (i : Image) (n : Nat) (w : Bool), s.dlink.txn = some ⟨i, .awaitCommand, n, w⟩ → s.dlink.continuous = none →
    ∃ x, exec .stopFetch s = .next { s with dlink := ⟨none, some x⟩ } ∧
      (∀ b : Byte, b ≠ 0xA1 → b ≠ 0xA2 → exec (.displayNoCommand b) s = .next { s with dlink := ⟨none, some x⟩ }) ∧
      x.byteAt 0 = byte i.generation ∧ ∀ k, x.byteAt (k + 1) = 0xFF

/-- R161, R162: what a cell stream sends: the generation number; 0xFF up to its first cell byte; then cell after cell, two bytes each,
wrapping from the last window cell to the first. -/
def Obligations.CellStreamBytes : Prop :=
  ∀ (i : Image) (n start from_ k : Nat) (w : Bool), 0 < from_ → 0 < i.cells.length →
    let x : DisplayTxn := ⟨i, .cells start from_, n, w⟩
    x.byteAt 0 = byte i.generation ∧ (∀ p, 0 < p → p < from_ → x.byteAt p = 0xFF) ∧
      ∀ c, i.cells[(start + k) % i.cells.length]? = some c →
        x.byteAt (from_ + 2 * k) = c.code ∧
        x.byteAt (from_ + 2 * k + 1) =
          byte ((if c.cursor then 1 else 0) + (if c.bold then 2 else 0) + (if c.underline then 4 else 0)
            + (if c.marker then 8 else 0) + (if c.pending then 16 else 0) + if c.unprintable then 32 else 0)

/-- R156: at a rebuild for width w with the window's first cell at f and the cursor at cell c, the window jumps right, so that the
cursor stands three quarters of the way across, jumps left, so that it stands one quarter across or the window begins at 0, or stays;
the cursor cell then lies in the window, the first cell never passes it, it never passes the count of line cells, and the cells right of
the text are blank. -/
def Obligations.WindowFollowsCursor : Prop :=
  ∀ (s : State) (w : Nat), w ∈ [16, 20, 24, 32, 40] →
    let f := s.disp.image.first
    let c := s.cursor
    let i := (rebuildAt w s).disp.image
    (f + w - 1 < c → i.first = c - 3 * w / 4 ∧ c - i.first = 3 * w / 4) ∧
      (c < f → i.first = (if c < w / 4 then 0 else c - w / 4) ∧ (0 < i.first → c - i.first = w / 4)) ∧
      (c ≤ f + w - 1 → f ≤ c → i.first = f) ∧ i.first ≤ c ∧ c ≤ i.first + w - 1 ∧ c ≤ (cellEntries s).length ∧
      ∀ j < w, (cellEntries s).length ≤ i.first + j → i.cells[j]? = some (Cell.blank (i.first + j == c))

/-! ## The mechanism -/

/-- R20: a rotation crosses the index exactly when petal 0 is one of the petals it arrives at: forward in one-petal steps for a
distance of 1 to 50, backward for 51 to 99. -/
def Obligations.RotationCrossesIndex : Prop :=
  ∀ a b : Nat, a < 100 → b < 100 →
    let d := (b + 100 - a) % 100
    (crossesIndex a b = true ↔
      (d ≤ 50 ∧ ∃ k, 1 ≤ k ∧ k ≤ d ∧ (a + k) % 100 = 0) ∨ (51 ≤ d ∧ ∃ k, 1 ≤ k ∧ k ≤ 100 - d ∧ (a + 100 - k) % 100 = 0)) ∧
    (d ≤ 50 → (crossesIndex a b = true ↔ 100 ≤ a + d ∧ d ≠ 0)) ∧
    (51 ≤ d → (crossesIndex a b = true ↔ 1 ≤ a ∧ a ≤ 100 - d))

/-- R74, R78, R79, R81: a carriage settled signal ends a MOVE, or turns the wheel of a PRINT or LIFT; a feed settled signal ends a
FEED, and a clamped one clears the correction memory (R107). Nothing else begins. -/
def Sys2Proof.Claims.SettledCarriageAndFeed : Prop :=
  ∀ (s : State) (f : InFlight), s.seq.inflight = some f → f.discard = false →
    (∀ x, s.seq.motion = .carriage → f.entry = .move x → s.NothingToBegin →
      ∃ t, exec (.settledSignal .carriage) s = .next t ∧
        Leaves s t { s with seq := { s.seq with carriage := x, inflight := none, motion := .rest } }) ∧
    (∀ p, s.seq.motion = .carriage → f.entry = .print p → f.stopped = false →
      (f.petal + 100 - s.seq.petal % 100) % 100 ≠ 0 →
      ∃ t, exec (.settledSignal .carriage) s = .next t ∧
        Leaves s t { s with seq := { s.seq with
          carriage := p.pos, inflight := some { f with step := .wheel }, motion := .wheel 0, attempts := 0 } }) ∧
    (∀ l, s.seq.motion = .carriage → f.entry = .lift l → f.stopped = false →
      (f.petal + 100 - s.seq.petal % 100) % 100 ≠ 0 →
      ∃ t, exec (.settledSignal .carriage) s = .next t ∧
        Leaves s t { s with seq := { s.seq with
          carriage := l.pos, inflight := some { f with step := .wheel }, motion := .wheel 0, attempts := 0 } }) ∧
    ∀ amount result, s.seq.motion = .feed → f.entry = .feed amount result → s.NothingToBegin →
      ∃ t, exec (.settledSignal .feed) s = .next t ∧
        Leaves s t { s with
          seq := { s.seq with vpos := result, inflight := none, motion := .rest }
          mem := if f.clamped then [] else s.mem }

/-- R23, R75, R83, R99, R100: the wheel settles with the index pulses the rotation calls for: the PRINT completes, its strike record is
filed under a reference nothing uses, and the entry of its group becomes STRUCK when no PRINT of the group is left. That the ribbon
and the hammer, which no row ends, take no time of their own is the model's choice (log entry 10). -/
def Sys2Proof.Claims.PrintCompletes : Prop :=
  ∀ (s : State) (f : InFlight) (p : PrintStrike) (pulses : Nat), s.seq.inflight = some f → f.discard = false →
    f.entry = .print p → s.seq.motion = .wheel pulses → pulses = (if crossesIndex s.seq.petal f.petal then 1 else 0) →
    s.comp.correction = none → s.NothingToBegin →
    ∃ t ref, exec (.settledSignal .wheel) s = .next t ∧ ref ∉ refsInUse s ∧
      Leaves s t
        (let u := { s with
          seq := { s.seq with petal := f.petal, inflight := none, motion := .rest }
          mem := fileRecord p.vpos ⟨ref, p.group, p.role, p.pos, f.petal, f.wheel, p.code, f.impression⟩ s.mem }
        if s.seq.queue.any (SEntry.isPrintOf p.group) then u
        else u.setEntries (s.entries.map fun e =>
          if e.group = some p.group ∧ e.state = .pending then { e with state := .struck } else e))

/-- R100 to R102: a strike record filed for a line. The line's slot is found, or made, the oldest of four being dropped for it (R101).
With all 512 places taken, the oldest slots but the line's own are dropped whole, one after another, until a place is free; with none
left to drop, the line's oldest record goes and its slot is marked truncated. The record is then the last of its line's slot, which is
the newest, and the other slots stay as they were. -/
def Obligations.RecordFiled : Prop :=
  ∀ (m : List LineSlot) (v : Nat) (r : StrikeRec), (m.map LineSlot.vpos).Nodup → m.length ≤ 4 → recordCount m ≤ 512 →
    let own := (m.find? fun x => x.vpos == v).getD ⟨v, false, []⟩
    let others :=
      if (m.any fun x => x.vpos == v) = false ∧ m.length = 4 then m.drop 1 else m.filter fun x => x.vpos != v
    let total (l : List LineSlot) : Nat := (l.map fun x => x.records.length).sum + own.records.length
    (∀ j, j ≤ others.length → total (others.drop j) < 512 → (∀ i, i < j → 512 ≤ total (others.drop i)) →
      fileRecord v r m = others.drop j ++ [{ own with records := own.records ++ [r] }]) ∧
    (512 ≤ own.records.length → fileRecord v r m = [⟨v, true, own.records.drop 1 ++ [r]⟩]) ∧
    (fileRecord v r m).length ≤ 4 ∧ recordCount (fileRecord v r m) ≤ 512

/-- R77, R103, R104, R125: a LIFT completes: the record it names, or for a LIFT CHARACTER the last made of the unclaimed records
under its position and code, leaves the memory, and the composer is told the record's group; with no such record nothing is
removed. -/
def Sys2Proof.Claims.LiftCompletes : Prop :=
  ∀ (s : State) (f : InFlight) (l : LiftStrike) (pulses : Nat), s.seq.inflight = some f → f.discard = false →
    f.entry = .lift l → s.seq.motion = .wheel pulses → pulses = (if crossesIndex s.seq.petal f.petal then 1 else 0) →
    s.NothingToBegin →
    let u := { s with seq := { s.seq with petal := f.petal, inflight := none, motion := .rest } }
    let without (ref : Nat) : List LineSlot :=
      s.mem.map fun sl => { sl with records := sl.records.filter fun r => r.ref != ref }
    (∀ ref, l.ref = some ref →
      ∃ t, exec (.settledSignal .wheel) s = .next t ∧ Leaves s t (tellLift l.group { u with mem := without ref })) ∧
    (l.ref = none → ∀ r, recordUnder u s.seq.vpos l.pos l.code = some r →
      ∃ t, exec (.settledSignal .wheel) s = .next t ∧ Leaves s t (tellLift r.group { u with mem := without r.ref })) ∧
    (l.ref = none → recordUnder u s.seq.vpos l.pos l.code = none →
      ∃ t, exec (.settledSignal .wheel) s = .next t ∧ Leaves s t u)

/-- R74 to R81: what a settled signal does, for an entry of each kind that moves. That the ribbon, the tape and the hammer, which no
row ends, take no time of their own is the model's choice (log entry 10). -/
def Obligations.EntriesComplete : Prop :=
  Sys2Proof.Claims.SettledCarriageAndFeed ∧ Sys2Proof.Claims.PrintCompletes ∧ Sys2Proof.Claims.LiftCompletes

/-- R82, R83: an attempt fails for the first or second time, its limit run out or its wheel settled with the wrong count of index
pulses: the attempts are counted, and the axis is re-homed, the feed driven again, or a homing's carriage drive made again. That the
last of these is one more drive and no re-homing before it is the model's reading (log entry 26). -/
def Sys2Proof.Claims.FailedAttemptIsRetried : Prop :=
  ∀ s : State, s.Engaged → s.seq.attempts < 2 →
    let failed (m : Motion) : State := { s with seq := { s.seq with attempts := s.seq.attempts + 1, motion := m } }
    (s.seq.motion = .carriage ∨ s.seq.motion = .rehomeCarriage →
      ∃ t, exec .motionLimitExpiry s = .next t ∧ Leaves s t (failed .rehomeCarriage)) ∧
    (∀ n, s.seq.motion = .wheel n ∨ s.seq.motion = .rehomeWheel → s.seq.moving = true →
      ∃ t, exec .motionLimitExpiry s = .next t ∧ Leaves s t (failed .rehomeWheel)) ∧
    (s.seq.motion = .feed → ∃ t, exec .motionLimitExpiry s = .next t ∧ Leaves s t (failed .feed)) ∧
    (s.seq.motion = .homeCarriage → s.seq.homingRequest = false →
      ∃ t, exec .motionLimitExpiry s = .next t ∧ Leaves s t (failed .homeCarriage)) ∧
    ∀ f n, s.seq.motion = .wheel n → s.seq.inflight = some f → f.stopped = false →
      n ≠ (if crossesIndex s.seq.petal f.petal then 1 else 0) →
      ∃ t, exec (.settledSignal .wheel) s = .next t ∧ Leaves s t (failed .rehomeWheel)

/-- R84: the third failed attempt: FAULT, the entry in flight stopped at its step, nothing running, and an urgent MECH report of the
axis and the stopped entry. That a homing's carriage drive enters FAULT too when its request has been set, so that it was to stop, is
the model's reading (log entry 27). -/
def Obligations.ThirdFailureIsFault : Prop :=
  ∀ (s : State) (axis : Axis), 2 ≤ s.seq.attempts → (∀ f ∈ s.seq.inflight, f.discard = false) →
    (axis = .carriage ∧ (s.seq.motion = .carriage ∨ s.seq.motion = .rehomeCarriage ∨ s.seq.motion = .homeCarriage) ∨
      axis = .wheel ∧ (s.seq.motion = .rehomeWheel ∨ ∃ n, s.seq.motion = .wheel n) ∨ axis = .feed ∧ s.seq.motion = .feed) →
    let stopped := s.seq.inflight.map fun f => { f with stopped := true }
    let event : MechEvent := .fault axis
      (stopped.map fun f => match f.entry with
        | .print _ => 0
        | .lift _ => 1
        | .feed _ _ => 2
        | .move _ => 3
        | .mark _ _ _ => 4)
      (stopped.bind fun f => match f.entry with
        | .print p => some (p.group, p.pos)
        | .lift l => some (l.group, l.pos)
        | _ => none)
    ∃ t, exec .motionLimitExpiry s = .next t ∧
      Leaves s t { s with
        seq := { s.seq with attempts := s.seq.attempts + 1, fault := true, motion := .rest, inflight := stopped }
        con := { s.con with reports := s.con.reports.add ⟨.mech event s.seq.holds .fault, 0, true⟩ } }

/-- R82, R83, R87: index pulses and the carriage home signal: a pulse of a rotation is counted; the pulse that ends a wheel re-homing
turns the wheel again from petal 0; the home signal that ends a carriage re-homing drives the carriage again from 0; the one that ends
a homing's drive begins the index search. -/
def Sys2Proof.Claims.IndexAndHomeSignals : Prop :=
  ∀ (s : State) (hub : Fin 64),
    (∀ n, s.seq.motion = .wheel n → s.seq.moving = true →
      ∃ t, exec (.indexPulse hub) s = .next t ∧ Leaves s t { s with seq := { s.seq with motion := .wheel (n + 1) } }) ∧
    (∀ f, s.seq.motion = .rehomeWheel → s.seq.inflight = some f → f.stopped = false → f.petal % 100 ≠ 0 →
      ∃ t, exec (.indexPulse hub) s = .next t ∧
        Leaves s t { s with seq := { s.seq with petal := 0, inflight := some { f with step := .wheel }, motion := .wheel 0 } }) ∧
    (∀ f x, s.seq.motion = .rehomeCarriage → s.seq.inflight = some f → f.stopped = false → f.entry = .move x → x ≠ 0 →
      ∃ t, exec .carriageHome s = .next t ∧ Leaves s t { s with seq := { s.seq with carriage := 0, motion := .carriage } }) ∧
    (∀ f p, s.seq.motion = .rehomeCarriage → s.seq.inflight = some f → f.stopped = false → f.entry = .print p → p.pos ≠ 0 →
      ∃ t, exec .carriageHome s = .next t ∧ Leaves s t { s with seq := { s.seq with carriage := 0, motion := .carriage } }) ∧
    (∀ f l, s.seq.motion = .rehomeCarriage → s.seq.inflight = some f → f.stopped = false → f.entry = .lift l → l.pos ≠ 0 →
      ∃ t, exec .carriageHome s = .next t ∧ Leaves s t { s with seq := { s.seq with carriage := 0, motion := .carriage } }) ∧
    (s.seq.motion = .homeCarriage → s.seq.homingRequest = false →
      ∃ t, exec .carriageHome s = .next t ∧ Leaves s t { s with seq := { s.seq with carriage := 0, motion := .homeWheel } })

/-- R82, R83, R87: failed attempts, re-homings and index pulses. -/
def Obligations.MotionsRetried : Prop :=
  Sys2Proof.Claims.FailedAttemptIsRetried ∧ Sys2Proof.Claims.IndexAndHomeSignals

/-- R87 to R89: a homing's index search ends. With the index seen, the petal is 0 and the hub code is the mounted code, WHEEL CHANGED
tells of a new one, and WHEEL UNDEFINED leaves or stays as the code has a descriptor; with the search run out, WHEEL ABSENT joins, the
code is 0, which no descriptor holds, and WHEEL UNDEFINED stands. Here the strike queue is empty, WHEEL ABSENT and PITCH CHANGED are
not in the set and WHEEL UNDEFINED is, as after power-on. The state a MECH report carries at this moment is the model's reading (log
entry 8). -/
def Obligations.HomingReadsTheWheel : Prop :=
  ∀ (s : State) (hub : Fin 64), s.seq.motion = .homeWheel → s.seq.homingRequest = false → s.seq.fault = false →
    s.seq.queue = [] → s.seq.inflight = none → s.seq.holds.wheelAbsent = false → s.seq.holds.wheelUndefined = true →
    s.seq.holds.pitchChanged = false →
    let changed (code : Nat) (q : ReportQueue) : ReportQueue :=
      if code = s.seq.mounted then q else q.add ⟨.wheelChanged s.seq.mounted code, 0, false⟩
    let ended (h : Holds) (code petal : Nat) : Sequencer :=
      { s.seq with mounted := code, petal := petal, motion := .rest, holds := h }
    let absent := { s.seq.holds with wheelAbsent := true }
    let defined := { s.seq.holds with wheelUndefined := false }
    (findDescriptor s.wheels hub.val = none →
      ∃ t, exec (.indexPulse hub) s = .next t ∧
        Leaves s t { s with
          seq := ended s.seq.holds hub.val 0
          con := { s.con with reports := changed hub.val s.con.reports } }) ∧
    (∀ d, findDescriptor s.wheels hub.val = some d →
      ∃ t, exec (.indexPulse hub) s = .next t ∧
        Leaves s t { s with
          seq := ended defined hub.val 0
          con := { s.con with
            reports := (changed hub.val s.con.reports).add ⟨.mech (.left .wheelUndefined) defined .homing, 0, false⟩ } }) ∧
    (findDescriptor s.wheels 0 = none →
      ∃ t, exec .indexSearchExpiry s = .next t ∧
        Leaves s t { s with
          seq := ended absent 0 s.seq.petal
          con := { s.con with
            reports := changed 0 (s.con.reports.add ⟨.mech (.joined .wheelAbsent) absent .homing, 0, true⟩) } })

/-- R90, R93, R94: a sensor's condition comes: its reason joins the hold-reason set with an urgent MECH report, and the cover's opening
also sets the request of a homing in progress; a reason already in the set changes nothing. -/
def Sys2Proof.Claims.SensorReasonsJoin : Prop :=
  ∀ s : State,
    let joined (h : Hold) (u : State) : State :=
      let q := { u.seq with holds := u.seq.holds.put h true }
      { u with
        seq := q
        con := { u.con with reports := u.con.reports.add ⟨.mech (.joined h) q.holds q.stateAfterChange, 0, true⟩ } }
    let cover : State := { s with seq := { s.seq with homingRequest := s.seq.homingRequest || s.seq.homing } }
    (∃ t, exec .coverOpens s = .next t ∧
      Leaves s t (if s.seq.holds.coverOpen then cover else joined .coverOpen cover)) ∧
    (∃ t, exec .paperEnd s = .next t ∧ Leaves s t (if s.seq.holds.paperOut then s else joined .paperOut s)) ∧
    (∃ t, exec .paperReleaseLeverOpens s = .next t ∧
      Leaves s t (if s.seq.holds.paperReleased then s else joined .paperReleased s)) ∧
    (∃ t, exec .ribbonEnd s = .next t ∧ Leaves s t (if s.seq.holds.ribbonOut then s else joined .ribbonOut s)) ∧
    ∃ t, exec .tapeEnd s = .next t ∧ Leaves s t (if s.seq.holds.tapeOut then s else joined .tapeOut s)

/-- R86, R93, R94, R106: a sensor's condition goes while the mechanism is busy: its reason leaves the set with a MECH report that is
not urgent; the cover's closing sets the homing request; the lever's closing clears the correction memory. With the mechanism at rest
and the cover alone holding it, the cover's closing starts homing. That the MECH report carries HOMING then is the model's reading (log
entry 8). -/
def Sys2Proof.Claims.SensorReasonsLeave : Prop :=
  ∀ s : State,
    let left (h : Hold) (u : State) (x : SeqState) : State :=
      let q := { u.seq with holds := u.seq.holds.put h false }
      { u with seq := q, con := { u.con with reports := u.con.reports.add ⟨.mech (.left h) q.holds x, 0, false⟩ } }
    let busy : SeqState := if s.seq.fault then .fault else if s.seq.homing then .homing else .running
    (s.Engaged →
      (∃ t, exec .coverCloses s = .next t ∧
        Leaves s t
          (let u := { s with seq := { s.seq with homingRequest := true } }
          if s.seq.holds.coverOpen then left .coverOpen u busy else u)) ∧
      (∃ t, exec .paperPresent s = .next t ∧ Leaves s t (if s.seq.holds.paperOut then left .paperOut s busy else s)) ∧
      (∃ t, exec .paperReleaseLeverCloses s = .next t ∧
        Leaves s t
          (let u := { s with mem := [] }
          if s.seq.holds.paperReleased then left .paperReleased u busy else u)) ∧
      (∃ t, exec .ribbonReplaced s = .next t ∧ Leaves s t (if s.seq.holds.ribbonOut then left .ribbonOut s busy else s)) ∧
      ∃ t, exec .tapeReplaced s = .next t ∧ Leaves s t (if s.seq.holds.tapeOut then left .tapeOut s busy else s)) ∧
    (s.seq.fault = false → s.seq.homing = false → s.seq.moving = false → s.seq.holds.coverOpen = true →
      ∃ t, exec .coverCloses s = .next t ∧
        Leaves s t
          (let u := left .coverOpen s .homing
          { u with seq := { u.seq with homingRequest := false, motion := .homeCarriage, attempts := 0 } }))

/-- R86, R90, R93, R94, R106: what each sensor does to the hold-reason set. -/
def Obligations.SensorsChangeHolds : Prop :=
  Sys2Proof.Claims.SensorReasonsJoin ∧ Sys2Proof.Claims.SensorReasonsLeave

/-- R67, R72, R74, R11, R14: an event that lets the head of the strike queue begin: here the ribbon replaced, with a PRINT of a code on
the mounted wheel at the head and the carriage elsewhere. The PRINT leaves the queue and is in flight, bound to its petal, to the
impression the setting gives and to the wheel, and the carriage moves. Nothing waits for the place it frees. That the MECH report
carries RUNNING, for the entry that begins in the same event, is the model's reading (log entry 8). -/
def Obligations.PrintBegins : Prop :=
  ∀ (s : State) (p : PrintStrike) (rest : List SEntry) (d : Descriptor) (n : Nat),
    s.seq.queue = .print p :: rest → s.seq.inflight = none → s.seq.fault = false → s.seq.homing = false →
    s.seq.homingRequest = false → s.seq.holds = { Holds.none with ribbonOut := true } → s.NobodyWaits →
    findDescriptor s.wheels s.seq.mounted = some d → d.petalOf p.code = some n → s.seq.carriage ≠ p.pos →
    let cls := (d.petals.getD n ⟨none, 3, 2⟩).impression
    let struck := match s.comp.impression with
      | .light => cls - 1
      | .normal => cls
      | .heavy => cls + 1
    ∃ t, exec .ribbonReplaced s = .next t ∧
      Leaves s t { s with
        seq := { s.seq with
          queue := rest, holds := Holds.none, motion := .carriage, attempts := 0
          inflight := some ⟨.print p, false, .carriage, n, max 1 (min 4 struck), s.seq.mounted, false, false⟩ }
        con := { s.con with reports := s.con.reports.add ⟨.mech (.left .ribbonOut) Holds.none .running, 0, false⟩ } }

/-! ## Spelling checks -/

/-- R142: each letter has its value, and the three indices, from 1, 7 and 13, take the letters one after another with the factors 31,
37 and 41, each reduced modulo 131072: so they are the polynomials of the values, the first letter at the highest power. A word in
neither list is decided by the bits at those three numbers, whichever check asks. -/
def Obligations.SignatureIndices : Prop :=
  ∀ w : List Byte,
    let value (c : Byte) : Nat := if c = 0x27 then 27 else c.toNat - 0x60
    let poly (m h : Nat) : Nat :=
      (h * m ^ w.length + ((List.range w.length).map fun i => value (w.getD i 0) * m ^ (w.length - 1 - i)).sum) % 131072
    signatureIndices w = (poly 31 1, poly 37 7, poly 41 13) ∧
      (∀ c, signatureIndices (w ++ [c]) =
        ((poly 31 1 * 31 + value c) % 131072, (poly 37 7 * 37 + value c) % 131072, (poly 41 13 * 41 + value c) % 131072)) ∧
      ∀ u : Spelling, w ∉ u.userWords → w ∉ u.rejectWords →
        u.decision w =
          (if Config.signature (poly 31 1) = true ∧ Config.signature (poly 37 7) = true ∧ Config.signature (poly 41 13) = true
            then .known else .unknown, .signature)

/-- R140, R141, R143, R144, R151: the check at the head completes and leaves the queue. A discarded one does nothing. A WORD CHECK is
answered with CHECK RESULT: FLAGGED from the reject list, else KNOWN from the user list, else KNOWN or UNKNOWN by the signature. A line
word's result goes to its word, while that stands, and to SPELL ALERT unless it is KNOWN or the mode is OFF. That a completion with no
check in progress, which no engine shows, changes nothing is log entry 2; SPELL ALERT's tag 0 is the model's reading (log entry 14). -/
def Obligations.CheckCompletes : Prop :=
  ∀ s : State, s.arb.headWaiting = false →
    (s.spell.checks = [] → ∃ t, exec .checkCompletion s = .next t ∧ Leaves s t s) ∧
    ∀ c rest, s.spell.checks = c :: rest →
      let u := { s with spell := { s.spell with checks := rest } }
      let i := signatureIndices c.letters
      let inSignature := Config.signature i.1 && Config.signature i.2.1 && Config.signature i.2.2
      let answer : CheckResult × Basis :=
        if c.letters ∈ s.spell.rejectWords then (.flagged, .rejectList)
        else if c.letters ∈ s.spell.userWords then (.known, .userList)
        else (if inSignature then .known else .unknown, .signature)
      (c.discarded = true → ∃ t, exec .checkCompletion s = .next t ∧ Leaves s t u) ∧
      (∀ port tag, c.discarded = false → c.kind = .wordCheck port tag →
        ∃ t, exec .checkCompletion s = .next t ∧
          Leaves s t (report u port tag (.checkResult c.letters answer.1 answer.2))) ∧
      ∀ attached start v port, c.discarded = false → c.kind = .lineWord attached start v port →
        let words := if attached then s.spell.words.map fun w =>
            if w.checkId = some c.id then
              { w with checkId := none, state := match answer.1 with
                | .known => WordState.known
                | .unknown => .unknown
                | .flagged => .flagged }
            else w
          else s.spell.words
        let marked := if attached then
            State.setEntries { u with spell := { u.spell with words := words } } (markEntries words s.entries)
          else u
        let body := Report.spellAlert c.letters start v (answer.1 == .flagged)
        let alerted := { marked with con := { marked.con with reports := marked.con.reports.add ⟨body, 0, true⟩ } }
        ∃ t, exec .checkCompletion s = .next t ∧
          Leaves s t
            (if answer.1 = .known ∨ s.spell.mode = .off then marked
            else if port = .interface ∧ s.spell.interfaceReports = true then report alerted .interface 0 body
            else alerted)

/-! ## The composer's own placements -/

/-- R61, R62: with the mechanism busy, the print line places the groups at its cursor, each whole and in order, as long as the next
one fits, and its cursor passes them; it stops at the first group that does not fit. With no underscores lost and no UNPRINTABLE entry
passed, no report is made. -/
def Sys2Proof.Claims.FeedingPlacesWhatFits : Prop :=
  ∀ (s : State) (l : PrintLine), s.comp.printLine = some l → s.Engaged → s.seq.queue.length ≤ 64 →
    (∀ e ∈ l.entries, e.unprintable = false ∧ (buildPrintEntry s.descriptor e).lost = false) →
    let strikes (e : PrintEntry) : List SEntry :=
      printEntries (buildPrintEntry s.descriptor e) l.vpos (e.group.getD 0) (composedPitch s.descriptor) l.port
    ∃ t k, exec .printLineFeeding s = .next t ∧
      Leaves s t { s with
        comp := { s.comp with printLine := some { l with cursor := l.cursor + k } }
        seq := { s.seq with queue := s.seq.queue ++ ((l.entries.drop l.cursor).take k).flatMap strikes } } ∧
      t.seq.queue.length ≤ 64 ∧ (k ≤ (l.entries.drop l.cursor).length) ∧
      ∀ e, (l.entries.drop l.cursor)[k]? = some e → 64 < t.seq.queue.length + (strikes e).length

/-- R63: with every entry passed and three places free, four with the notify flag, the closing placements join the queue together
(the MOVE, the FEED, LINE DONE, and DONE with the notify flag) and the print line is FREE; not before. Here the mechanism is busy and
nothing waits for the print line. -/
def Sys2Proof.Claims.ClosingPlacementsMade : Prop :=
  ∀ (s : State) (l : PrintLine), s.comp.printLine = some l → s.Engaged → s.comp.correction = none →
    s.arb.flushPending = false → s.arb.takeover = false → s.arb.headWaiting = false →
    let closing : List SEntry :=
      [.move l.moveTarget, .feed l.feedAmount l.feedResult, .mark l.port l.tag (.lineDone l.vpos)] ++
        if l.notify then [.mark l.port l.tag .done] else []
    (l.entries.length ≤ l.cursor → s.seq.queue.length + closing.length ≤ 64 →
      ∃ t, exec .closingPlacements s = .next t ∧
        Leaves s t { s with
          comp := { s.comp with printLine := none }
          seq := { s.seq with queue := s.seq.queue ++ closing } }) ∧
    (l.cursor < l.entries.length ∨ 64 < s.seq.queue.length + closing.length →
      ∃ t, exec .closingPlacements s = .next t ∧ Leaves s t s)

/-- R61 to R63: the print line feeds the strike queue and makes its closing placements. -/
def Obligations.PrintLinePlaces : Prop :=
  Sys2Proof.Claims.FeedingPlacesWhatFits ∧ Sys2Proof.Claims.ClosingPlacementsMade

/-- R121 to R123: a correction in progress with one target left: it waits while a PRINT of the target is in flight, or for room for a
LIFT of every record of it; then the LIFTs join the queue, last strike first. With its last target passed it closes: the notify MARK
behind the LIFTs, once there is a place for it, and the end, with PARTIAL when a target was short, and a grant decision. Here the
mechanism is busy and nothing else waits. That a target whose strikes were all withdrawn at the take is not short is the model's reading
(log entry 18), and so is what a target holds from its take (log entry 12). -/
def Obligations.LiftsPlaced : Prop :=
  ∀ (s : State) (c : Correction), s.comp.correction = some c → s.Engaged →
    s.comp.printLine = none → s.arb.flushPending = false → s.arb.takeover = false → s.arb.headWaiting = false →
    s.seq.queue.length ≤ 64 →
    let room := 64 - s.seq.queue.length
    let after (d : Correction) (lifts : List SEntry) : State := { s with
      comp := { s.comp with correction := some d }
      seq := { s.seq with queue := s.seq.queue ++ lifts } }
    let ended (d : Correction) (lifts : List SEntry) : State :=
      let u := { s with
        comp := { s.comp with correction := none }
        seq := { s.seq with
          queue := s.seq.queue ++ lifts ++ if d.notify then [.mark d.port d.tag .done] else [] } }
      State.granted
        (if d.shorts = 0 then u
        else report u d.port d.tag (.partialLift d.vpos d.placed d.shorts (d.leftmostShort.getD 0)))
    (c.remaining = [] →
      let d := { c with phase := .closing }
      (c.notify = false ∨ 1 ≤ room → ∃ t, exec .liftPlacement s = .next t ∧ Leaves s t (ended d [])) ∧
      (c.notify = true → room = 0 → ∃ t, exec .liftPlacement s = .next t ∧ Leaves s t (after d []))) ∧
    ∀ x, c.remaining = [x] →
      let records := groupRecords s x.group c.vpos
      let lifts : List SEntry := records.reverse.map fun r =>
        .lift ⟨some r.ref, r.code, r.group, r.pos, r.petal, r.wheel, min 4 (r.impression + 1), c.port⟩
      let short := x.withdrawn = false ∧ isShortTarget s x.group c.vpos x.space = true
      let d := { c with
        remaining := [], phase := .closing, placed := c.placed + records.length
        shorts := c.shorts + if short then 1 else 0, leftmostShort := if short then some x.key else c.leftmostShort }
      (printInFlight s x.group = true →
        ∃ t, exec .liftPlacement s = .next t ∧ Leaves s t (after { c with phase := .waitingOnStrike } [])) ∧
      (printInFlight s x.group = false → room < records.length →
        ∃ t, exec .liftPlacement s = .next t ∧ Leaves s t (after { c with phase := .placing } [])) ∧
      (printInFlight s x.group = false → records.length + (if c.notify then 1 else 0) ≤ room →
        ∃ t, exec .liftPlacement s = .next t ∧ Leaves s t (ended d lifts)) ∧
      (printInFlight s x.group = false → c.notify = true → records.length = room →
        ∃ t, exec .liftPlacement s = .next t ∧ Leaves s t (after d lifts))

/-! ## Text commands -/

/-- R21, R22, R29, R30, R132, R135, R136: a line opens for the issuing port at the print point, with no words; an entry joins the line
behind every entry whose position is at most its own, the print point moves, the word table lists the words of the line in order, and
the marker stands on the entries of UNKNOWN and FLAGGED words alone. Nothing else of the composer changes. -/
def Sys2Proof.Claims.EntryJoinsTheLine : Prop :=
  (∀ (s : State) (p : Port), s.comp.line = none →
    openLine p s = { s with
      comp := { s.comp with line := some ⟨p, s.comp.vpos, s.comp.printPoint, s.comp.marginRelease, [], false⟩ }
      spell := { s.spell with words := [] } }) ∧
  (∀ (s : State) (p : Port) (l : ComposeLine), s.comp.line = some l → openLine p s = s) ∧
  ∀ (s : State) (l : ComposeLine) (e : Entry) (n : Nat), s.comp.line = some l →
    let es := (l.entries.takeWhile fun x => x.pos ≤ e.pos) ++ e :: l.entries.dropWhile fun x => x.pos ≤ e.pos
    ∃ es' : List Entry,
      (addEntry e n s).comp = { s.comp with line := some { l with entries := es' }, printPoint := n } ∧
      (es'.map fun x => { x with marker := false }) = (es.map fun x => { x with marker := false }) ∧
      ((addEntry e n s).spell.words.map WordRec.entries) = (wordsOf es).map FoundWord.groups ∧
      (∀ x ∈ es', x.marker = true ↔
        ∃ w ∈ (addEntry e n s).spell.words, (w.state = .unknown ∨ w.state = .flagged) ∧ ∃ g ∈ x.group, g ∈ w.entries) ∧
      (addEntry e n s).seq = s.seq ∧ (addEntry e n s).mem = s.mem ∧ (addEntry e n s).con = s.con ∧
      (addEntry e n s).ifl = s.ifl ∧ (addEntry e n s).arb = s.arb

/-- R30 to R32, R180: CHAR and SPACE taken in LINE mode: the entry is HELD, or UNPRINTABLE for a code not on the wheel; it has the
width of R12, the port's attributes and a group number (a SPACE only with underline on); nothing is placed but the notify MARK. A CHAR
of 0x20 is a SPACE. The echo of a CHAR of 0x20 as a SPACE is the model's reading (log entry 29). -/
def Obligations.TextHeldInLineMode : Prop :=
  ∀ (s : State) (p : Port) (it : QItem), s.head = some (p, it) → s.comp.mode = .line → s.entries.length < 200 → s.Room it 0 →
    let bound := if s.comp.marginRelease then 1800 else s.comp.rm
    let bold : Bool := s.comp.boldOf p
    let under : Bool := s.comp.underlineOf p
    let joined (e : Entry) (u : State) : State := (addEntry e (e.pos + e.width) (openLine p u)).taken p it []
    (∀ c : Byte, it.cmd = .char c → c ≠ 0x20 → controlCode c = false →
      s.comp.printPoint + escapement s.descriptor c ≤ bound →
      ∃ t, exec .char s = .next t ∧
        Leaves s t ((joined ⟨.char, c, s.comp.printPoint, escapement s.descriptor c, bold, under, some s.freeGroup,
          if onDescriptor s.descriptor c then .held else .unprintable, false⟩ (s.useGroup s.freeGroup)).echoed p it 0x41
            (some c))) ∧
    (s.comp.printPoint + escapement s.descriptor 0x20 ≤ bound →
      let e : Entry := ⟨.space, 0x20, s.comp.printPoint, escapement s.descriptor 0x20, bold, under,
        if under then some s.freeGroup else none, .held, false⟩
      let u := (joined e (if under then s.useGroup s.freeGroup else s)).echoed p it 0x50 (some 0x20)
      (it.cmd = .space → ∃ t, exec .space s = .next t ∧ Leaves s t u) ∧
      (it.cmd = .char 0x20 → ∃ t, exec .char s = .next t ∧ Leaves s t u))

/-- R13, R16 to R18, R26, R30: CHAR taken in DIRECT mode with its code on the wheel: the entry is PENDING, and its group is placed
whole: the BASE, with bold on a BOLD SECOND one unit right, and with underline on the UNDERSCORE strikes; underscores that the wheel
cannot print are reported once for the line. The report's tag 0 is the model's reading (log entry 14). -/
def Sys2Proof.Claims.CharPlacedInDirectMode : Prop :=
  ∀ (s : State) (p : Port) (it : QItem) (c : Byte), s.head = some (p, it) → it.cmd = .char c → s.comp.mode = .direct →
    c ≠ 0x20 → controlCode c = false → onDescriptor s.descriptor c = true → s.entries.length < 200 →
    let at_ := s.comp.printPoint
    let w := escapement s.descriptor c
    let bold : Bool := s.comp.boldOf p
    let under : Bool := s.comp.underlineOf p
    let strike (role : Role) (code : Byte) (pos : Nat) : SEntry :=
      .print ⟨code, role, pos, s.comp.vpos, s.freeGroup, composedPitch s.descriptor, p⟩
    let strikes : List SEntry :=
      strike .base c at_ :: (if bold then [strike .boldSecond c (at_ + 1)] else []) ++
        if under ∧ onDescriptor s.descriptor 0x5F = true then
          (underscorePositions at_ w (escapement s.descriptor 0x5F)).map (strike .underscore 0x5F)
        else []
    at_ + w ≤ (if s.comp.marginRelease then 1800 else s.comp.rm) → s.Room it strikes.length →
    let v := addEntry ⟨.char, c, at_, w, bold, under, some s.freeGroup, .pending, false⟩ (at_ + w)
      (openLine p (s.useGroup s.freeGroup))
    let u := match v.comp.line with
      | some l =>
        if under ∧ onDescriptor s.descriptor 0x5F = false ∧ l.underscoreReported = false then
          report { v with comp := { v.comp with line := some { l with underscoreReported := true } } } p 0
            (.unprinted s.freeGroup at_ 0x5F (some .underscore))
        else v
      | none => v
    ∃ t, exec .char s = .next t ∧ Leaves s t ((u.taken p it strikes).echoed p it 0x41 (some c))

/-- R17, R18, R32, R34: SPACE and TAB taken in DIRECT mode. A SPACE with underline off places nothing and is STRUCK; with underline on
and the underscore on the wheel it is PENDING and places its UNDERSCORE strikes; with the underscore not on the wheel it places nothing
and is STRUCK, its group number kept, and the loss is reported once for the line (its tag 0 is log entry 14). A TAB moves to the least
stop right of the print point within its bound, and places the MOVE; in LINE mode it is HELD and places nothing. -/
def Sys2Proof.Claims.SpaceAndTabTaken : Prop :=
  ∀ (s : State) (p : Port) (it : QItem), s.head = some (p, it) → s.entries.length < 200 →
    let at_ := s.comp.printPoint
    let bound := if s.comp.marginRelease then 1800 else s.comp.rm
    let w := escapement s.descriptor 0x20
    let bold : Bool := s.comp.boldOf p
    let under : Bool := s.comp.underlineOf p
    let joined (g : Option Nat) (x : PrintState) (u : State) : State :=
      addEntry ⟨.space, 0x20, at_, w, bold, under, g, x, false⟩ (at_ + w) (openLine p u)
    (it.cmd = .space → s.comp.mode = .direct → ¬(p = .console ∧ 0 < s.comp.zone ∧ s.comp.rm ≤ at_ + s.comp.zone) →
      at_ + w ≤ bound →
      (under = false → s.Room it 0 →
        ∃ t, exec .space s = .next t ∧
          Leaves s t (((joined none .struck s).taken p it []).echoed p it 0x50 (some 0x20))) ∧
      (under = true → onDescriptor s.descriptor 0x5F = true →
        let strikes : List SEntry := (underscorePositions at_ w (escapement s.descriptor 0x5F)).map fun pos =>
          .print ⟨0x5F, .underscore, pos, s.comp.vpos, s.freeGroup, composedPitch s.descriptor, p⟩
        s.Room it strikes.length →
        ∃ t, exec .space s = .next t ∧
          Leaves s t (((joined (some s.freeGroup) .pending (s.useGroup s.freeGroup)).taken p it strikes).echoed p it 0x50
            (some 0x20))) ∧
      (under = true → onDescriptor s.descriptor 0x5F = false → s.Room it 0 →
        let v := joined (some s.freeGroup) .struck (s.useGroup s.freeGroup)
        let u := match v.comp.line with
          | some l =>
            if l.underscoreReported = false then
              report { v with comp := { v.comp with line := some { l with underscoreReported := true } } } p 0
                (.unprinted s.freeGroup at_ 0x5F (some .underscore))
            else v
          | none => v
        ∃ t, exec .space s = .next t ∧ Leaves s t ((u.taken p it []).echoed p it 0x50 (some 0x20)))) ∧
    ∀ stop ∈ s.comp.tabs, it.cmd = .tab → at_ < stop → stop ≤ bound → (∀ x ∈ s.comp.tabs, at_ < x → stop ≤ x) →
      let strikes : List SEntry := match s.comp.mode with
        | .direct => [.move stop]
        | .line => []
      let state := match s.comp.mode with
        | .direct => PrintState.struck
        | .line => .held
      s.Room it strikes.length →
      ∃ t, exec .tab s = .next t ∧
        Leaves s t (((addEntry ⟨.tab, 0x09, at_, stop - at_, false, false, none, state, false⟩ stop
          (openLine p s)).taken p it strikes).echoed p it 0x51 (some 0x09))

/-- R13, R16 to R18, R26, R30, R32, R34: CHAR and SPACE taken in DIRECT mode, and TAB in either. -/
def Obligations.TextPlaced : Prop :=
  Sys2Proof.Claims.CharPlacedInDirectMode ∧ Sys2Proof.Claims.SpaceAndTabTaken

/-- R28, R30, R31, R32, R34: CHAR, SPACE and TAB refused, the tests in their order: BAD PARAMETER for a control code, LINE FULL, MARGIN,
NOT ON WHEEL in DIRECT mode; for a TAB, NO TAB STOP. -/
def Obligations.TextRefused : Prop :=
  ∀ (s : State) (p : Port) (it : QItem), s.head = some (p, it) →
    let bound := if s.comp.marginRelease then 1800 else s.comp.rm
    let implied := s.comp.mode = .direct ∧ p = .console ∧ 0 < s.comp.zone ∧ s.comp.rm ≤ s.comp.printPoint + s.comp.zone
    let refused (row : Instr) (r : Reason) : Prop := ∃ t, exec row s = .next t ∧ Leaves s t (s.refusedTake p it r .plain)
    (∀ c, it.cmd = .char c → c ≠ 0x20 →
      (controlCode c = true → refused .char .badParameter) ∧
      (controlCode c = false → 200 ≤ s.entries.length → refused .char .lineFull) ∧
      (controlCode c = false → s.entries.length < 200 → bound < s.comp.printPoint + escapement s.descriptor c →
        refused .char .margin) ∧
      (controlCode c = false → s.entries.length < 200 → s.comp.printPoint + escapement s.descriptor c ≤ bound →
        s.comp.mode = .direct → onDescriptor s.descriptor c = false → refused .char .notOnWheel)) ∧
    (it.cmd = .space → ¬implied →
      (200 ≤ s.entries.length → refused .space .lineFull) ∧
      (s.entries.length < 200 → bound < s.comp.printPoint + escapement s.descriptor 0x20 → refused .space .margin)) ∧
    (it.cmd = .tab →
      (200 ≤ s.entries.length → refused .tab .lineFull) ∧
      (s.entries.length < 200 → (∀ x ∈ s.comp.tabs, x ≤ s.comp.printPoint ∨ bound < x) → refused .tab .noTabStop))

/-- R35, R36: BACKSPACE moves the print point back by the width of the entry that stands last in list order among those not LIFTED
left of it, else by the space width; MICRO LEFT and MICRO RIGHT move it one unit, clamped to 0 to 1800. None adds an entry, opens a
line or places anything but the notify MARK. That a direction other than 0 and 1 is BAD PARAMETER on either row is the model's reading
(log entry 9). -/
def Sys2Proof.Claims.PrintPointMoves : Prop :=
  ∀ (s : State) (p : Port) (it : QItem), s.head = some (p, it) →
    let moved (n : Nat) : State := State.taken { s with comp := { s.comp with printPoint := n } } p it []
    (it.cmd = .backspace → s.Room it 0 →
      let left := s.entries.filter fun e => e.state != .lifted && decide (e.pos < s.comp.printPoint)
      let width := match left.getLast? with
        | some e => e.width
        | none => escapement s.descriptor 0x20
      ∃ t, exec .backspace s = .next t ∧
        Leaves s t ((moved (s.comp.printPoint - width)).echoed p it 0x42 (some 0x08))) ∧
    (it.cmd = .micro 0 → s.Room it 0 →
      ∃ t, exec .microLeft s = .next t ∧ Leaves s t ((moved (s.comp.printPoint - 1)).echoed p it 0x4B (some 0))) ∧
    (it.cmd = .micro 1 → s.Room it 0 →
      ∃ t, exec .microRight s = .next t ∧
        Leaves s t ((moved (min 1800 (s.comp.printPoint + 1))).echoed p it 0x4B (some 1))) ∧
    ∀ n, 2 ≤ n → it.cmd = .micro n →
      (∃ t, exec .microLeft s = .next t ∧ Leaves s t (s.refusedTake p it .badParameter .plain)) ∧
      ∃ t, exec .microRight s = .next t ∧ Leaves s t (s.refusedTake p it .badParameter .plain)

/-- R26, R28, R37: INDEX and REVERSE INDEX move the logical vertical position one half-line, clamped to 0 to 1023, and place a FEED
with the signed amount and the result; in DIRECT mode an open line closes, not counted; in LINE mode they are refused with a line open
and wait while the print line is FEEDING. -/
def Sys2Proof.Claims.IndexMovesThePaper : Prop :=
  ∀ (s : State) (p : Port) (it : QItem) (down : Bool), s.head = some (p, it) →
    it.cmd = (if down then .indexDown else .reverseIndex) →
    let row : Instr := if down then .indexCmd else .reverseIndex
    let result := if down then min 1023 (s.comp.vpos + 1) else s.comp.vpos - 1
    let u := s.lineClosed false
    (s.comp.mode = .direct ∨ s.comp.line = none ∧ s.comp.printLine = none → s.Room it 1 →
      ∃ t, exec row s = .next t ∧
        Leaves s t ((State.taken { u with comp := { u.comp with vpos := result } } p it
          [.feed (if down then 1 else -1) result]).echoed p it (if down then 0x49 else 0x4A)
            (if down then some 0x0A else none))) ∧
    (s.comp.mode = .line → s.comp.line ≠ none →
      ∃ t, exec row s = .next t ∧ Leaves s t (s.refusedTake p it .lineOpen .plain)) ∧
    (s.comp.mode = .line → s.comp.line = none → s.comp.printLine ≠ none →
      ∃ t, exec row s = .next t ∧ Leaves s t s.waiting)

/-- R35 to R37: the commands that move a position and print nothing. -/
def Obligations.PositionsMoved : Prop :=
  Sys2Proof.Claims.PrintPointMoves ∧ Sys2Proof.Claims.IndexMovesThePaper

/-- R26, R33, R38, R180: RETURN and RETURN FLUSH in DIRECT mode, and a console SPACE in the auto-return zone: a MOVE to the LM in force
after the close and a FEED of the line spacing, the line closed and counted, both positions moved; waiting while places are short.
The echo of an implied RETURN carries RETURN's bytes. -/
def Obligations.ReturnInDirectMode : Prop :=
  ∀ (s : State) (p : Port) (it : QItem) (row : Instr), s.head = some (p, it) → s.comp.mode = .direct →
    (it.cmd = .ret 0 ∧ row = .ret ∨ it.cmd = .ret 1 ∧ row = .returnFlush ∨
      it.cmd = .space ∧ row = .space ∧ p = .console ∧ 0 < s.comp.zone ∧ s.comp.rm ≤ s.comp.printPoint + s.comp.zone) →
    (s.Room it 2 →
      ∃ t, exec row s = .next t ∧ Leaves s t ((s.returned.taken p it s.returnStrikes).echoed p it 0x46 (some 0x0D))) ∧
    (64 < s.seq.queue.length + 2 + (if it.notify then 1 else 0) → s.seq.queue.length ≤ 64 →
      ∃ t, exec row s = .next t ∧ Leaves s t s.waiting)

/-- R49 to R52, R54, R62, R64: RETURN and RETURN FLUSH in LINE mode. While the print line is FEEDING the command waits. With no line
open the print line takes no entries; its vertical position is then the logical one before the FEED (log entry 45, the model's choice).
RETURN FLUSH with a line open, no hold test being called for, releases it flush left: the line closes and is counted, both positions
move, and the print line takes the line's entries but for its trailing plain spaces, as typed, with the closing placements to come;
what fits is placed at once. -/
def Sys2Proof.Claims.ReleaseFlushLeft : Prop :=
  ∀ (s : State) (p : Port) (it : QItem) (row : Instr), s.head = some (p, it) → s.comp.mode = .line →
    (it.cmd = .ret 0 ∧ row = .ret ∨ it.cmd = .ret 1 ∧ row = .returnFlush) →
    (s.comp.printLine ≠ none → ∃ t, exec row s = .next t ∧ Leaves s t s.waiting) ∧
    (s.comp.printLine = none → s.Engaged →
      let kept := ((s.entries.reverse.dropWhile fun e => e.kind == .space && !e.underline)).reverse
      let released (e : Entry) : PrintEntry :=
        ⟨e.kind, e.code, e.pos, e.width, e.bold, e.underline, e.group, e.state == .unprintable⟩
      let line (port : Port) (vpos : Nat) : PrintLine :=
        ⟨port, vpos, it.tag, it.notify, kept.map released, 0, s.marginAfter, s.comp.spacing, s.vposAfter, false⟩
      let v (l : PrintLine) : State := { s.returned with comp := { s.returned.comp with printLine := some l } }
      let told (u : State) : State := ((u.headGone p).granted).echoed p it 0x46 (some 0x0D)
      (s.comp.line = none →
        ∃ t, exec row s = .next t ∧ Leaves s t (told (feed (v (line p s.comp.vpos))))) ∧
      ∀ l, s.comp.line = some l → row = .returnFlush → s.spell.mode ≠ .hold ∨ l.port = .interface →
        (∀ e ∈ kept, e.kind = .space → e.underline = true → e.group ≠ none) →
        ∃ t, exec row s = .next t ∧ Leaves s t (told (feed (v (line l.port l.vpos)))))

/-- R49 to R62: RETURN in LINE mode, no hold test being called for and the mechanism busy: the open line is released by the rows of
R54, in their order, from its entries but for the trailing plain spaces. With none kept, or with margin release and no request, it is
flush left; a request with margin release, or CENTRE with a TAB in the line, is ignored with its report; CENTRE and RIGHT shift every
entry, the start kept between the opening position and the margin; without a request, JUSTIFY off or no gap leaves the line flush left,
a span that is broken or would stretch a gap beyond Smax prints flush left with LOOSE LINE, and any other span is laid out anew to end
at RM, its bridged gaps numbered from left to right (log entry 46). The report goes to the line's port before anything is placed; what
fits is placed at once. -/
def Sys2Proof.Claims.ReleaseByReturn : Prop :=
  ∀ (s : State) (p : Port) (it : QItem) (l : ComposeLine), s.head = some (p, it) → it.cmd = .ret 0 → s.comp.mode = .line →
    s.comp.printLine = none → s.comp.line = some l → s.spell.mode ≠ .hold ∨ l.port = .interface → s.Engaged →
    let kept := ((l.entries.reverse.dropWhile fun e => e.kind == .space && !e.underline)).reverse
    let start := match (kept.filter fun e => e.kind == .tab).getLast? with
      | some e => e.pos + e.width
      | none => l.opening
    let inSpan (e : Entry) : Bool := e.kind != .tab && decide (start ≤ e.pos)
    let span := kept.filter inSpan
    let gaps := gapCount span
    let spare := s.comp.rm - ((span.getLast?.map fun e => e.pos + e.width).getD s.comp.rm)
    let most := if spare % gaps = 0 then spare / gaps else spare / gaps + 1
    let reach : Nat := (kept.map fun e => e.pos + e.width).foldl max 0
    let width : Int := (reach : Int) - l.opening
    let clamped (x : Int) : Nat := (max (l.opening : Int) (min x (s.comp.rm - width)) - l.opening).toNat
    let shifted (n : Nat) (e : Entry) : PrintEntry :=
      ⟨e.kind, e.code, e.pos + n, e.width, e.bold, e.underline, e.group, e.state == .unprintable⟩
    let released (es : List PrintEntry) (r : Option Report) : Prop :=
      let (numbered, u) := numberBridged es s
      let line : PrintLine :=
        ⟨l.port, l.vpos, it.tag, it.notify, numbered, 0, s.marginAfter, s.comp.spacing, s.vposAfter, false⟩
      let v := { u.returned with comp := { u.returned.comp with printLine := some line } }
      let w := match r with
        | some b => report v l.port it.tag b
        | none => v
      ∃ t, exec .ret s = .next t ∧ Leaves s t ((((feed w).headGone p).granted).echoed p it 0x46 (some 0x0D))
    let typed := kept.map (shifted 0)
    (kept = [] → released [] none) ∧
    (kept ≠ [] → l.marginRelease = true →
      (s.comp.alignment = none → released typed none) ∧
      ∀ r, s.comp.alignment = some r → released typed (some (.alignIgnored l.vpos r .marginRelease))) ∧
    (kept ≠ [] → l.marginRelease = false → s.comp.alignment = some .centre →
      ((∃ e ∈ kept, e.kind = .tab) → released typed (some (.alignIgnored l.vpos .centre .tab))) ∧
      ((∀ e ∈ kept, e.kind ≠ .tab) →
        released (kept.map (shifted (clamped (s.comp.lm + ((s.comp.rm : Int) - s.comp.lm - width) / 2)))) none)) ∧
    (kept ≠ [] → l.marginRelease = false → s.comp.alignment = some .right →
      released (kept.map (shifted (clamped (s.comp.rm - width)))) none) ∧
    (kept ≠ [] → l.marginRelease = false → s.comp.alignment = none →
      (s.comp.justify = false ∨ gaps = 0 → released typed none) ∧
      (s.comp.justify = true → 0 < gaps → continuousFrom start span = false →
        released typed (some (.looseLine l.vpos .brokenSpan spare gaps))) ∧
      (s.comp.justify = true → 0 < gaps → continuousFrom start span = true → s.comp.smax < most →
        released typed (some (.looseLine l.vpos .stretch spare gaps))) ∧
      (s.comp.justify = true → 0 < gaps → continuousFrom start span = true → most ≤ s.comp.smax →
        released
          ((kept.filter fun e => !(inSpan e)).map (shifted 0) ++
            layOut s.comp.lineCounter spare gaps start 0 false false span) none))

/-- R49, R146: the hold test of a console RETURN in LINE mode and HOLD, its last word complete: it waits while a word is CHECKING, and
is refused with SPELLING HOLD while one is UNKNOWN or FLAGGED. -/
def Sys2Proof.Claims.SpellingHoldsReturn : Prop :=
  ∀ (s : State) (p : Port) (it : QItem) (l : ComposeLine) (row : Instr), s.head = some (p, it) →
    (it.cmd = .ret 0 ∧ row = .ret ∨ it.cmd = .ret 1 ∧ row = .returnFlush) → s.comp.mode = .line → s.comp.printLine = none →
    s.comp.line = some l → l.port = .console → s.spell.mode = .hold → (∀ w ∈ s.spell.words, w.state ≠ .opened) →
    ((∃ w ∈ s.spell.words, w.state = .checking) → ∃ t, exec row s = .next t ∧ Leaves s t s.waiting) ∧
    ((∀ w ∈ s.spell.words, w.state ≠ .checking) → (∃ w ∈ s.spell.words, w.state = .unknown ∨ w.state = .flagged) →
      ∃ t, exec row s = .next t ∧ Leaves s t (s.refusedTake p it .spellingHold .plain))

/-- R49 to R62, R146: RETURN and RETURN FLUSH in LINE mode: waiting, released flush left, aligned or justified, or held by the spelling
unit. The vertical position of a print line made with no line open (log entry 45) and the order in which bridged gaps are numbered (log
entry 46) are the model's choices. -/
def Obligations.ReturnInLineMode : Prop :=
  Sys2Proof.Claims.ReleaseFlushLeft ∧ Sys2Proof.Claims.ReleaseByReturn ∧ Sys2Proof.Claims.SpellingHoldsReturn

/-- R53, R57 to R59: a justified line. The span laid out anew from its start keeps its entries, in their order, with all that they carry
but position, width and underline. Each entry begins where the one before it ends, the first at the start, and the last ends exactly at
RM. A gap is a SPACE with a CHAR before it and one after it in the span: the gaps alone are widened, each by the quotient of the spare
units by the gaps or one more, the odd units going to the first gaps with an even line counter and to the last with an odd one. A gap
between two underlined CHARs is underlined; every other entry keeps its underline. -/
def Obligations.JustifiedLineEndsAtMargin : Prop :=
  ∀ (counter rm start : Nat) (span : List Entry) (last : Entry), continuousFrom start span = true →
    span.getLast? = some last → last.pos + last.width ≤ rm → 0 < gapCount span →
    let e := rm - (last.pos + last.width)
    let g := gapCount span
    let out := layOut counter e g start 0 false false span
    out.length = span.length ∧ (∀ y, out.getLast? = some y → y.pos + y.width = rm) ∧
    ∀ k x y, span[k]? = some x → out[k]? = some y →
      let before := span.take k
      let behind := span.drop (k + 1)
      let gap := x.kind = .space ∧ (∃ c ∈ before, c.kind = .char) ∧ ∃ c ∈ behind, c.kind = .char
      let i := (before.dropWhile fun c => c.kind != .char).countP fun c => c.kind == .space
      let odd := if counter % 2 = 0 then i < e % g else g - e % g ≤ i
      let underlined (c : Option Entry) : Prop := ∃ d, c = some d ∧ d.underline = true
      y.kind = x.kind ∧ y.code = x.code ∧ y.bold = x.bold ∧ y.group = x.group ∧ y.unprintable = (x.state == .unprintable) ∧
      y.pos = start + ((out.take k).map PrintEntry.width).sum ∧
      (gap → y.width = x.width + e / g + if odd then 1 else 0) ∧ (¬gap → y.width = x.width) ∧
      (y.underline = true ↔
        x.underline = true ∨ gap ∧ underlined (before.reverse.find? fun c => c.kind == .char) ∧
          underlined (behind.find? fun c => c.kind == .char))

/-! ## Format and settings commands -/

/-- R40 to R42: BOLD and UNDERLINE set the attribute of the issuing port; MARGIN RELEASE sets the setting and the open line's flag;
CENTER and ALIGN RIGHT set the alignment request in LINE mode and are refused in DIRECT mode. None places anything but its MARK. -/
def Sys2Proof.Claims.FormatCommandsTaken : Prop :=
  ∀ (s : State) (p : Port) (it : QItem), s.head = some (p, it) →
    let done_ (row : Instr) (c : Composer) : Prop :=
      s.Room it 0 → ∃ t, exec row s = .next t ∧ Leaves s t (State.taken { s with comp := c } p it [])
    let bold (b : Bool) : Composer := match p with
      | .console => { s.comp with consoleBold := b }
      | .interface => { s.comp with interfaceBold := b }
    let under (b : Bool) : Composer := match p with
      | .console => { s.comp with consoleUnderline := b }
      | .interface => { s.comp with interfaceUnderline := b }
    (it.cmd = .bold 1 → done_ .boldOn (bold true)) ∧ (it.cmd = .bold 0 → done_ .boldOff (bold false)) ∧
    (it.cmd = .underline 1 → done_ .underlineOn (under true)) ∧
    (it.cmd = .underline 0 → done_ .underlineOff (under false)) ∧
    (it.cmd = .marginRelease →
      done_ .marginRelease { s.comp with
        marginRelease := true, line := s.comp.line.map fun l => { l with marginRelease := true } }) ∧
    (it.cmd = .center → s.comp.mode = .line → done_ .center { s.comp with alignment := some .centre }) ∧
    (it.cmd = .alignRight → s.comp.mode = .line → done_ .alignRight { s.comp with alignment := some .right }) ∧
    (it.cmd = .center → s.comp.mode = .direct →
      ∃ t, exec .center s = .next t ∧ Leaves s t (s.refusedTake p it .notInMode .plain)) ∧
    (it.cmd = .alignRight → s.comp.mode = .direct →
      ∃ t, exec .alignRight s = .next t ∧ Leaves s t (s.refusedTake p it .notInMode .plain))

/-- R43, R44: LEFT MARGIN is taken into LM, or kept pending with a line open; RIGHT MARGIN into RM at once; each is refused with BAD
MARGIN nearer than 120 units or outside the travel, and RIGHT MARGIN with MARGIN CONFLICT when an entry ends beyond it. -/
def Sys2Proof.Claims.MarginsTaken : Prop :=
  ∀ (s : State) (p : Port) (it : QItem) (x : Nat), s.head = some (p, it) →
    let taken (row : Instr) (c : Composer) : Prop :=
      s.Room it 0 → ∃ t, exec row s = .next t ∧ Leaves s t (State.taken { s with comp := c } p it [])
    let refused (row : Instr) (r : Reason) : Prop := ∃ t, exec row s = .next t ∧ Leaves s t (s.refusedTake p it r .plain)
    (it.cmd = .leftMargin x →
      (1800 < x ∨ s.comp.rm < x + 120 → refused .leftMargin .badMargin) ∧
      (x ≤ 1800 → x + 120 ≤ s.comp.rm →
        taken .leftMargin (if s.comp.line = none then { s.comp with lm := x } else { s.comp with pendingLm := some x }))) ∧
    (it.cmd = .rightMargin x →
      let bad := 1800 < x ∨ x < s.comp.lm + 120 ∨ ∃ lm ∈ s.comp.pendingLm, x < lm + 120
      let conflict := ∃ e ∈ s.entries, e.state ≠ .lifted ∧ x < e.pos + e.width
      (bad → refused .rightMargin .badMargin) ∧ (¬bad → conflict → refused .rightMargin .marginConflict) ∧
      (¬bad → ¬conflict → taken .rightMargin { s.comp with rm := x }))

/-- R28, R45: TAB SET adds a position to the stops in its place, TAB CLEAR takes one out, TAB CLEAR ALL empties them; 0xFFFF stands for
the print point; a position held already, or not held, changes nothing; TABS FULL at 32 stops, and after that test (R28: the reasons in
the order R45 gives them) BAD PARAMETER outside the travel. That TAB CLEAR ALL is taken whatever position its command carries is the
model's reading (log entry 39). -/
def Sys2Proof.Claims.TabStopsTaken : Prop :=
  ∀ (s : State) (p : Port) (it : QItem) (n : Nat), s.head = some (p, it) → s.comp.tabs.Pairwise (· < ·) →
    let x := if n = 0xFFFF then s.comp.printPoint else n
    let taken (row : Instr) (tabs : List Nat) : Prop :=
      s.Room it 0 → ∃ t, exec row s = .next t ∧ Leaves s t (State.taken { s with comp := { s.comp with tabs := tabs } } p it [])
    let refused (row : Instr) (r : Reason) : Prop := ∃ t, exec row s = .next t ∧ Leaves s t (s.refusedTake p it r .plain)
    (it.cmd = .tabStop 0 n →
      (x ∈ s.comp.tabs → taken .tabSet s.comp.tabs) ∧
      (x ∉ s.comp.tabs → 32 ≤ s.comp.tabs.length → refused .tabSet .tabsFull) ∧
      (x ∉ s.comp.tabs → s.comp.tabs.length < 32 → 1800 < x → refused .tabSet .badParameter) ∧
      (x ≤ 1800 → x ∉ s.comp.tabs → s.comp.tabs.length < 32 →
        taken .tabSet ((s.comp.tabs.filter fun y => decide (y < x)) ++ x :: s.comp.tabs.filter fun y => decide (x < y)))) ∧
    (it.cmd = .tabStop 1 n →
      (1800 < x → refused .tabClear .badParameter) ∧
      (x ≤ 1800 → taken .tabClear (s.comp.tabs.filter fun y => decide (y ≠ x)))) ∧
    (it.cmd = .tabStop 2 n → taken .tabClearAll [])

/-- R43 to R45: the margins and the tab stops. -/
def Obligations.MarginsAndTabStopsTaken : Prop :=
  Sys2Proof.Claims.MarginsTaken ∧ Sys2Proof.Claims.TabStopsTaken

/-- R14, R46: the five settings taken at their values, and refused with BAD PARAMETER out of range. -/
def Sys2Proof.Claims.SettingsTaken : Prop :=
  ∀ (s : State) (p : Port) (it : QItem) (n : Nat), s.head = some (p, it) →
    let taken (row : Instr) (c : Composer) : Prop :=
      s.Room it 0 → ∃ t, exec row s = .next t ∧ Leaves s t (State.taken { s with comp := c } p it [])
    let refused (row : Instr) : Prop :=
      ∃ t, exec row s = .next t ∧ Leaves s t (s.refusedTake p it .badParameter .plain)
    (it.cmd = .spacing n →
      (2 ≤ n → n ≤ 6 → taken .spacing { s.comp with spacing := n }) ∧ (n < 2 ∨ 6 < n → refused .spacing)) ∧
    (it.cmd = .impression n →
      (n = 0 → taken .impression { s.comp with impression := .light }) ∧
      (n = 1 → taken .impression { s.comp with impression := .normal }) ∧
      (n = 2 → taken .impression { s.comp with impression := .heavy }) ∧ (2 < n → refused .impression)) ∧
    (it.cmd = .autoReturnZone n →
      (n ≤ 240 → taken .autoReturnZone { s.comp with zone := n }) ∧ (240 < n → refused .autoReturnZone)) ∧
    (it.cmd = .stretchLimit n →
      (n ≤ 60 → taken .stretchLimit { s.comp with smax := n }) ∧ (60 < n → refused .stretchLimit)) ∧
    (it.cmd = .justify n →
      (n = 0 → taken .justify { s.comp with justify := false }) ∧
      (n = 1 → taken .justify { s.comp with justify := true }) ∧ (1 < n → refused .justify))

/-- R14, R40 to R42, R46: the format commands and the five settings. -/
def Obligations.FormatAndSettingsTaken : Prop :=
  Sys2Proof.Claims.FormatCommandsTaken ∧ Sys2Proof.Claims.SettingsTaken

/-- R47, R145: MODE is refused while a line is open, waits while the print line is FEEDING, and is otherwise taken; SPELL MODE and
SPELL REPORTS are taken at once, and SPELL MODE to OFF makes CHECKING words UNCHECKED and drops the line words' checks, the one in
progress being marked discarded; a value out of range is BAD PARAMETER, for MODE before LINE OPEN is looked at and without a
wait for the print line (log entry 44, the model's choice). -/
def Obligations.ModesTaken : Prop :=
  ∀ (s : State) (p : Port) (it : QItem) (n : Nat), s.head = some (p, it) →
    let taken (row : Instr) (u : State) : Prop := s.Room it 0 → ∃ t, exec row s = .next t ∧ Leaves s t (u.taken p it [])
    let refused (row : Instr) (r : Reason) : Prop := ∃ t, exec row s = .next t ∧ Leaves s t (s.refusedTake p it r .plain)
    (it.cmd = .mode n →
      (1 < n → refused .modeCmd .badParameter) ∧ (n ≤ 1 → s.comp.line ≠ none → refused .modeCmd .lineOpen) ∧
      (n ≤ 1 → s.comp.line = none → s.comp.printLine ≠ none → ∃ t, exec .modeCmd s = .next t ∧ Leaves s t s.waiting) ∧
      (n ≤ 1 → s.comp.line = none → s.comp.printLine = none →
        taken .modeCmd { s with comp := { s.comp with mode := if n = 0 then .direct else .line } })) ∧
    (it.cmd = .spellMode n →
      (2 < n → refused .spellMode .badParameter) ∧
      (n = 1 → taken .spellMode { s with spell := { s.spell with mode := .alert } }) ∧
      (n = 2 → taken .spellMode { s with spell := { s.spell with mode := .hold } }) ∧
      (n = 0 → taken .spellMode { s with spell := { s.spell with
        mode := .off
        words := s.spell.words.map fun w =>
          if w.state = .checking then { w with state := .unchecked, checkId := none } else w
        checks := (s.spell.checks.take 1).map (fun c =>
            match c.kind with
            | .lineWord _ _ _ _ => { c with discarded := true }
            | .wordCheck _ _ => c) ++
          (s.spell.checks.drop 1).filter fun c => match c.kind with
            | .lineWord _ _ _ _ => false
            | .wordCheck _ _ => true } })) ∧
    (it.cmd = .spellReports n →
      (1 < n → refused .spellReports .badParameter) ∧
      (n ≤ 1 → taken .spellReports { s with spell := { s.spell with interfaceReports := decide (n = 1) } }))

/-! ## Corrections -/

/-- R113, R115, R116: a correction whose targets are all held: their entries leave the line, the plain spaces and tabs between the new
print point and the old are removed in LINE mode (and made LIFTED in DIRECT mode), the print point moves to the least key position,
and the words are derived again; nothing is placed but the notify MARK, and no correction is left in progress. -/
def Obligations.HeldTargetsDeleted : Prop :=
  ∀ (s : State) (p : Port) (it : QItem) (kind : CorrectionKind) (c : Candidate) (rest : List Candidate),
    s.head = some (p, it) →
    chooseTargets kind s (targetLookup s) = c :: rest → (∀ x ∈ c :: rest, x.held = true) → s.Room it 0 →
    let groups := (c :: rest).map Candidate.group
    let point := (rest.map Candidate.key).foldl min c.key
    let blank (e : Entry) : Bool :=
      (e.kind == .tab || e.kind == .space && e.group.isNone) && e.state != .lifted && decide (point ≤ e.pos) &&
        decide (e.pos < s.comp.printPoint)
    let left := s.entries.filter fun e => !(e.group.any fun g => groups.contains g)
    let es := match s.comp.mode with
      | .line => left.filter fun e => !(blank e)
      | .direct => left.map fun e => if blank e then { e with state := .lifted } else e
    let v := s.setEntries es
    let u := respell { v with comp := { v.comp with printPoint := point } }
    let row : Instr := match kind with
      | .correct => .correct
      | .wordCorrect => .wordCorrect
      | .lineCorrect => .lineCorrect
    it.cmd = (match kind with
      | .correct => .correct
      | .wordCorrect => .wordCorrect
      | .lineCorrect => .lineCorrect) →
    ∃ t, exec row s = .next t ∧ Leaves s t (u.taken p it [])

/-- R111, R115, R117 to R123: a correction of a closed line with one target, whose strikes are all on the paper: the print point moves
to its key position and a LIFT of each record joins the queue, last strike first, one impression class higher, with the notify MARK
behind them; the correction has ended. -/
def Obligations.PaperTargetLifted : Prop :=
  ∀ (s : State) (p : Port) (it : QItem) (kind : CorrectionKind) (c : Candidate), s.head = some (p, it) →
    chooseTargets kind s (targetLookup s) = [c] → c.held = false → s.comp.line = none → s.comp.printLine = none →
    printInFlight s c.group = false → queuedPrints s c.group = 0 → queuedLifts s c.group = 0 →
    isShortTarget s c.group s.comp.vpos c.space = false →
    let records := groupRecords s c.group s.comp.vpos
    let lifts : List SEntry := records.reverse.map fun r =>
      .lift ⟨some r.ref, r.code, r.group, r.pos, r.petal, r.wheel, min 4 (r.impression + 1), p⟩
    let row : Instr := match kind with
      | .correct => .correct
      | .wordCorrect => .wordCorrect
      | .lineCorrect => .lineCorrect
    it.cmd = (match kind with
      | .correct => .correct
      | .wordCorrect => .wordCorrect
      | .lineCorrect => .lineCorrect) →
    s.Room it records.length → s.Engaged →
    ∃ t, exec row s = .next t ∧
      Leaves s t (State.taken { s with comp := { s.comp with printPoint := c.key } } p it lifts)

/-- R113, R118, R130: a correction that finds no target, or only empty ones, is refused with NOT REMEMBERED, with the vertical
position and the print point or the first target's key position; one with paper targets waits while the print line is FEEDING, or
while room is short. -/
def Obligations.CorrectionRefusedOrWaits : Prop :=
  ∀ (s : State) (p : Port) (it : QItem) (kind : CorrectionKind), s.head = some (p, it) →
    let targets := chooseTargets kind s (targetLookup s)
    let paper := targets.filter fun c => !c.held
    let row : Instr := match kind with
      | .correct => .correct
      | .wordCorrect => .wordCorrect
      | .lineCorrect => .lineCorrect
    it.cmd = (match kind with
      | .correct => .correct
      | .wordCorrect => .wordCorrect
      | .lineCorrect => .lineCorrect) →
    (targets = [] →
      ∃ t, exec row s = .next t ∧
        Leaves s t (s.refusedTake p it .notRemembered (.line s.comp.vpos s.comp.printPoint))) ∧
    (paper ≠ [] → s.comp.printLine ≠ none → ∃ t, exec row s = .next t ∧ Leaves s t s.waiting) ∧
    (∀ c rest, targets = c :: rest → s.comp.printLine = none →
      ((∀ x ∈ targets, x.held = false ∧ isEmptyTarget s x.group s.comp.vpos = true) →
        ∃ t, exec row s = .next t ∧ Leaves s t (s.refusedTake p it .notRemembered (.line s.comp.vpos c.key))) ∧
      ((∃ x ∈ targets, x.held = true ∨ isEmptyTarget s x.group s.comp.vpos = false) →
        correctionRoom s paper < correctionNeed s paper it.notify →
        ∃ t, exec row s = .next t ∧ Leaves s t s.waiting))

/-- R26, R128, R129: LIFT CHARACTER places one LIFT without a record reference, one escapement left of the print point, which moves
there; it is refused for a code out of range or not on the wheel, and waits while the print line is FEEDING. RELOCATE moves the print
point to the greatest end of the line's entries that are not LIFTED, with a MOVE in DIRECT mode; with none it leaves it. -/
def Obligations.LiftCharacterAndRelocate : Prop :=
  ∀ (s : State) (p : Port) (it : QItem), s.head = some (p, it) →
    (∀ c, it.cmd = .liftCharacter c →
      (c.toNat ≤ 0x20 ∨ 0x7F ≤ c.toNat ∧ c.toNat ≤ 0x9F →
        ∃ t, exec .liftCharacter s = .next t ∧ Leaves s t (s.refusedTake p it .badParameter (.typingCode c))) ∧
      (¬(c.toNat ≤ 0x20 ∨ 0x7F ≤ c.toNat ∧ c.toNat ≤ 0x9F) →
        (onDescriptor s.descriptor c = false →
          ∃ t, exec .liftCharacter s = .next t ∧ Leaves s t (s.refusedTake p it .notOnWheel (.typingCode c))) ∧
        ∀ d n, findDescriptor s.wheels s.seq.mounted = some d → d.petalOf c = some n →
          (s.comp.printLine ≠ none → ∃ t, exec .liftCharacter s = .next t ∧ Leaves s t s.waiting) ∧
          (s.comp.printLine = none → s.Room it 1 →
            let x := s.comp.printPoint - escapement (some d) c
            let v := s.useGroup s.freeGroup
            ∃ t, exec .liftCharacter s = .next t ∧
              Leaves s t (State.taken { v with comp := { v.comp with printPoint := x } } p it
                [.lift ⟨none, c, s.freeGroup, x, n, s.seq.mounted, min 4 ((d.petals.getD n ⟨none, 3, 2⟩).impression + 1),
                  p⟩])))) ∧
    (it.cmd = .relocate →
      let live := s.entries.filter fun e => e.state != .lifted
      let x := (live.map fun e => e.pos + e.width).foldl max 0
      (live = [] → s.Room it 0 → ∃ t, exec .relocate s = .next t ∧ Leaves s t (s.taken p it [])) ∧
      (live ≠ [] →
        let strikes : List SEntry := match s.comp.mode with
          | .direct => [.move x]
          | .line => []
        s.Room it strikes.length →
        ∃ t, exec .relocate s = .next t ∧
          Leaves s t (State.taken { s with comp := { s.comp with printPoint := x } } p it strikes)))

/-- R25: with a group number free, the number assigned is one of 1 to 65535 that no strike, record or line entry carries, and the
counter then stands one past it, from 65535 to 1. -/
def Sys2Proof.Claims.GroupNumberIsFree : Prop :=
  ∀ s : State, 1 ≤ s.comp.groupCounter → s.comp.groupCounter ≤ 65535 →
    (∃ g, 1 ≤ g ∧ g ≤ 65535 ∧ groupInUse s g = false) →
    1 ≤ s.freeGroup ∧ s.freeGroup ≤ 65535 ∧ groupInUse s s.freeGroup = false ∧
      (s.useGroup s.freeGroup).comp = { s.comp with
        groupCounter := if s.freeGroup = 65535 then 1 else s.freeGroup + 1 }

/-- R22, R25, R29, R30, R135: an entry joins the line, and its group number is free. -/
def Obligations.EntryJoinsWithFreeGroup : Prop :=
  Sys2Proof.Claims.EntryJoinsTheLine ∧ Sys2Proof.Claims.GroupNumberIsFree

/-! ## Immediate commands -/

/-- R70, R85, R91, R92: RESUME, CLEAR FAULT and CONTINUE. RESUME is refused in FAULT, HOMING and RUNNING, and CLEAR FAULT outside
FAULT; taken, each sets the homing request, and with the cover closed homing starts in the same event. CONTINUE removes PITCH CHANGED,
with its MECH report, when it is in the set; here nothing may begin then. -/
def Obligations.MechanismCommands : Prop :=
  ∀ (s : State) (a : Arrival), a.port = .console → a.params = [] →
    let homing (u : State) : State :=
      { u with seq := { u.seq with homingRequest := false, motion := .homeCarriage, attempts := 0 } }
    (s.seq.fault = true → ∃ t, exec (.resume a) s = .next t ∧ Leaves s t (s.answered [2, 1, 19] false)) ∧
    (s.seq.fault = false → s.seq.homing = true ∨ s.seq.moving = true →
      ∃ t, exec (.resume a) s = .next t ∧ Leaves s t (s.answered [2, 1, 4] false)) ∧
    (s.seq.fault = false → s.seq.homing = false → s.seq.moving = false → s.seq.holds.coverOpen = false →
      ∃ t, exec (.resume a) s = .next t ∧ Leaves s t ((homing s).answered [0, 0] false)) ∧
    (s.seq.fault = false → s.seq.homing = false → s.seq.moving = false → s.seq.holds.coverOpen = true →
      ∃ t, exec (.resume a) s = .next t ∧
        Leaves s t (State.answered { s with seq := { s.seq with homingRequest := true } } [0, 0] false)) ∧
    (s.seq.fault = false → ∃ t, exec (.clearFault a) s = .next t ∧ Leaves s t (s.answered [2, 1, 20] false)) ∧
    (s.seq.fault = true → s.seq.homing = false → s.seq.moving = false →
      let u := { s with seq := { s.seq with fault := false, attempts := 0, homingRequest := true } }
      ∃ t, exec (.clearFault a) s = .next t ∧
        Leaves s t ((if s.seq.holds.coverOpen then u else homing u).answered [0, 0] false)) ∧
    (s.seq.holds.pitchChanged = false → s.Engaged ∨ s.NothingToBegin ∧ s.seq.inflight = none →
      ∃ t, exec (.continueCmd a) s = .next t ∧ Leaves s t (s.answered [0, 0] false)) ∧
    (s.seq.holds.pitchChanged = true → s.seq.fault = false → s.seq.homing = false → s.seq.moving = false →
      s.seq.homingRequest = false → s.seq.inflight = none → s.seq.queue = [] →
      let h := { s.seq.holds with pitchChanged := false }
      let x : SeqState := if h = Holds.none then .idle else .blocked
      let u := { s with
        seq := { s.seq with holds := h }
        con := { s.con with reports := s.con.reports.add ⟨.mech (.left .pitchChanged) h x, 0, false⟩ } }
      ∃ t, exec (.continueCmd a) s = .next t ∧ Leaves s t (u.answered [0, 0] false))

/-- R70: CANCEL PENDING with the mechanism busy, PITCH CHANGED not in the set, and the print line FREE: every PRINT leaves the strike
queue, the compose line's entries of their groups leave the line, the print point moves to the least of their positions, the words are
derived again, and the reply counts the PRINT entries and the line entries removed. With no PRINT queued nothing changes. -/
def Obligations.CancelPendingTaken : Prop :=
  ∀ (s : State) (a : Arrival), a.port = .console → a.params = [] → s.Engaged → s.seq.holds.pitchChanged = false →
    s.comp.printLine = none → s.NobodyWaits →
    let isPrint (e : SEntry) : Bool := match e with
      | .print _ => true
      | _ => false
    let gone (e : Entry) : Bool := e.group.any fun g => s.seq.queue.any fun x => match x with
      | .print p => p.group == g
      | _ => false
    let u := { s with seq := { s.seq with queue := s.seq.queue.filter fun e => !(isPrint e) } }
    let counts : List Byte :=
      let n := s.seq.queue.countP isPrint
      let m := s.entries.countP gone
      [0, 3, byte n, byte (m / 256), byte m]
    (s.seq.queue.countP isPrint = 0 →
      ∃ t, exec (.cancelPending a) s = .next t ∧ Leaves s t (s.answered [0, 3, 0, 0, 0] false)) ∧
    (s.seq.queue.countP isPrint ≠ 0 →
      let v := u.setEntries (s.entries.filter fun e => !(gone e))
      let point := match (s.entries.filter gone).map Entry.pos with
        | [] => s.comp.printPoint
        | x :: rest => rest.foldl min x
      ∃ t, exec (.cancelPending a) s = .next t ∧
        Leaves s t ((respell { v with comp := { v.comp with printPoint := point } }).answered counts false))

/-- R147, R148: ACCEPT makes every UNKNOWN and FLAGGED word ACCEPTED, with the markers written again, and answers how many; ACCEPT AND
LEARN also adds the UNKNOWN words to the user list: here the one UNKNOWN word, not on the list, with room for it, and with its USER WORD
ADDED report to the console. The replies' counts of one byte each (log entry 24) and the report's tag 0 (log entry 14) are the model's
readings. -/
def Sys2Proof.Claims.WordsAccepted : Prop :=
  ∀ (s : State) (a : Arrival), a.port = .console → a.params = [] →
    let alerted (w : WordRec) : Bool := w.state == .unknown || w.state == .flagged
    let accepted (ws : List WordRec) : List WordRec :=
      ws.map fun w => if alerted w = true then { w with state := .accepted } else w
    let marked (u : State) : State :=
      let ws := accepted s.spell.words
      State.setEntries { u with spell := { u.spell with words := ws } } (markEntries ws s.entries)
    let n := byte (s.spell.words.countP alerted)
    (∃ t, exec (.accept a) s = .next t ∧ Leaves s t ((marked s).answered [0, 1, n] false)) ∧
    ((∀ w ∈ s.spell.words, w.state ≠ .unknown) →
      ∃ t, exec (.acceptAndLearn a) s = .next t ∧ Leaves s t ((marked s).answered [0, 3, n, 0, 0] false)) ∧
    ∀ before w after, s.spell.words = before ++ w :: after → w.state = .unknown →
      (∀ x ∈ before ++ after, x.state ≠ .unknown) → w.letters ∉ s.spell.userWords →
      (s.spell.userWords.length < 64 →
        let u := report { s with spell := { s.spell with
          userWords := s.spell.userWords ++ [w.letters]
          rejectWords := s.spell.rejectWords.filter fun x => x != w.letters } } .console 0 (.userWordAdded w.letters)
        ∃ t, exec (.acceptAndLearn a) s = .next t ∧ Leaves s t ((marked u).answered [0, 3, n, 1, 0] false)) ∧
      (64 ≤ s.spell.userWords.length →
        ∃ t, exec (.acceptAndLearn a) s = .next t ∧ Leaves s t ((marked s).answered [0, 3, n, 0, 1] false))

/-- R149: USER WORD ADD and REJECT WORD ADD: BAD WORD for what is no list word; ALREADY for a word held; LIST FULL at 64 and 16 words;
otherwise the word is added in lower case and leaves the other list in the same act. -/
def Sys2Proof.Claims.WordAdded : Prop :=
  ∀ (s : State) (a : Arrival) (n : Byte) (letters : List Byte), a.port = .console → a.params = n :: letters →
    n.toNat = letters.length →
    let w := letters.map fun c => if 0x41 ≤ c.toNat ∧ c.toNat ≤ 0x5A then byte (c.toNat + 0x20) else c
    let answer (row : Instr) (u : State) (bytes : List Byte) : Prop :=
      ∃ t, exec row s = .next t ∧ Leaves s t (u.answered bytes false)
    (isListWord letters = false → answer (.userWordAdd a) s [2, 1, 17] ∧ answer (.rejectWordAdd a) s [2, 1, 17]) ∧
    (isListWord letters = true →
      (w ∈ s.spell.userWords → answer (.userWordAdd a) s [3, 0]) ∧
      (w ∉ s.spell.userWords → 64 ≤ s.spell.userWords.length → answer (.userWordAdd a) s [2, 1, 18]) ∧
      (w ∉ s.spell.userWords → s.spell.userWords.length < 64 →
        answer (.userWordAdd a)
          { s with spell := { s.spell with
            userWords := s.spell.userWords ++ [w], rejectWords := s.spell.rejectWords.filter fun x => x != w } } [0, 0]) ∧
      (w ∈ s.spell.rejectWords → answer (.rejectWordAdd a) s [3, 0]) ∧
      (w ∉ s.spell.rejectWords → 16 ≤ s.spell.rejectWords.length → answer (.rejectWordAdd a) s [2, 1, 18]) ∧
      (w ∉ s.spell.rejectWords → s.spell.rejectWords.length < 16 →
        answer (.rejectWordAdd a)
          { s with spell := { s.spell with
            rejectWords := s.spell.rejectWords ++ [w], userWords := s.spell.userWords.filter fun x => x != w } } [0, 0]))

/-- R147 to R149: words accepted, learned and added. -/
def Obligations.WordsAcceptedAndAdded : Prop :=
  Sys2Proof.Claims.WordsAccepted ∧ Sys2Proof.Claims.WordAdded

/-- R150: USER WORD REMOVE and REJECT WORD REMOVE: BAD WORD, ALREADY for a word not held, else the word leaves the list; LIST CLEAR
empties the list it names, 0 USER or 1 REJECT, and is BAD PARAMETER otherwise; none changes a word of the word table or a check. From
the interface, outside a break, each is refused with NOT ALLOWED (R168, R169). The model's readings are: one rebuild of the display for
the event, in Leaves (log entry 34); a TAKE left open before the frame counts as cut short, in State.answered (log entry 38); and the
interface's row stands for its sequence's last byte (log entry 23). -/
def Obligations.WordRemoved : Prop :=
  ∀ (s : State) (a : Arrival) (n : Byte) (letters : List Byte),
    let w := letters.map fun c => if 0x41 ≤ c.toNat ∧ c.toNat ≤ 0x5A then byte (c.toNat + 0x20) else c
    let answer (row : Instr) (u : State) (bytes : List Byte) : Prop :=
      ∃ t, exec row s = .next t ∧ Leaves s t (u.answered bytes false)
    let turnedAway (row : Instr) (code : Byte) : Prop :=
      ∃ t, exec row s = .next t ∧ Leaves s t (report s .interface a.tag (.refused .notAllowed code .plain))
    (a.port = .console → a.params = n :: letters → n.toNat = letters.length →
      (isListWord letters = false → answer (.userWordRemove a) s [2, 1, 17] ∧ answer (.rejectWordRemove a) s [2, 1, 17]) ∧
      (isListWord letters = true →
        (w ∉ s.spell.userWords → answer (.userWordRemove a) s [3, 0]) ∧
        (w ∈ s.spell.userWords →
          answer (.userWordRemove a)
            { s with spell := { s.spell with userWords := s.spell.userWords.filter fun x => x != w } } [0, 0]) ∧
        (w ∉ s.spell.rejectWords → answer (.rejectWordRemove a) s [3, 0]) ∧
        (w ∈ s.spell.rejectWords →
          answer (.rejectWordRemove a)
            { s with spell := { s.spell with rejectWords := s.spell.rejectWords.filter fun x => x != w } } [0, 0]))) ∧
    (a.port = .console → a.params = [n] →
      (n = 0 → answer (.listClear a) { s with spell := { s.spell with userWords := [] } } [0, 0]) ∧
      (n = 1 → answer (.listClear a) { s with spell := { s.spell with rejectWords := [] } } [0, 0]) ∧
      (n ≠ 0 → n ≠ 1 → answer (.listClear a) s [2, 1, 1])) ∧
    (a.port = .interface → s.ifl.inBreak = false → s.ifl.inbound.length < 48 →
      (a.params = n :: letters → n.toNat = letters.length →
        turnedAway (.userWordRemove a) 0x75 ∧ turnedAway (.rejectWordRemove a) 0x76) ∧
      (a.params = [n] → turnedAway (.listClear a) 0x6C))

/-- R139, R151: WORD CHECK from either port: BAD WORD for what is no list word, BUSY with eight checks queued, else a check of the
folded word joins the check queue under an id no check holds. The console has its reply; the interface, outside a break, has REFUSED
reports alone. -/
def Obligations.WordCheckTaken : Prop :=
  ∀ (s : State) (a : Arrival) (n : Byte) (letters : List Byte), a.params = n :: letters → n.toNat = letters.length →
    let w := letters.map fun c => if 0x41 ≤ c.toNat ∧ c.toNat ≤ 0x5A then byte (c.toNat + 0x20) else c
    let ends (r : Option Reason) (u : State) : State := match a.port, r with
      | .console, some r => u.answered [2, 1, byte r.code] false
      | .console, none => u.answered [0, 0] false
      | .interface, some r => report u .interface a.tag (.refused r 0x71 .plain)
      | .interface, none => u
    (a.port = .interface → s.ifl.inBreak = false ∧ s.ifl.inbound.length < 48) →
    (isListWord letters = false → ∃ t, exec (.wordCheck a) s = .next t ∧ Leaves s t (ends (some .badWord) s)) ∧
    (isListWord letters = true → 8 ≤ s.spell.checks.length →
      ∃ t, exec (.wordCheck a) s = .next t ∧ Leaves s t (ends (some .busy) s)) ∧
    (isListWord letters = true → s.spell.checks.length < 8 → 1 ≤ s.spell.nextId → s.spell.nextId ≤ 255 →
      ∃ t id, exec (.wordCheck a) s = .next t ∧ 1 ≤ id ∧ id ≤ 255 ∧ (∀ c ∈ s.spell.checks, c.id ≠ id) ∧
        Leaves s t (ends none { s with spell := { s.spell with
          checks := s.spell.checks ++ [⟨id, .wordCheck a.port a.tag, w, false⟩]
          nextId := if id = 255 then 1 else id + 1 } }))

/-- R157, R164, R169, R175, R176, R180, R187, R190: the settings of the links, the arbiter and the display taken from the console:
ECHO, LINK FORMAT, HOLD TIME, ATTN LEVEL, REMOTE HOLD, RELEASE with its grant decision, DISPLAY WIDTH with its rebuild, a change of
width turning the continuous fetch off also for a transaction in progress (R164); each ACCEPTED in its range and BAD PARAMETER out of
it. -/
def Sys2Proof.Claims.LinkSettingsTaken : Prop :=
  ∀ (s : State) (a : Arrival) (x y : Byte), a.port = .console →
    let accepted (row : Instr) (u : State) : Prop := ∃ t, exec row s = .next t ∧ Leaves s t (u.answered [0, 0] false)
    let bad (row : Instr) : Prop := ∃ t, exec row s = .next t ∧ Leaves s t (s.answered [2, 1, 1] false)
    (a.params = [x] →
      (x.toNat ≤ 1 → accepted (.echo a) { s with ifl := { s.ifl with echo := decide (x = 1) } }) ∧
      (1 < x.toNat → bad (.echo a)) ∧
      (1 ≤ x.toNat → x.toNat ≤ 60 → accepted (.holdTime a) { s with arb := { s.arb with holdTime := x.toNat } }) ∧
      (x.toNat = 0 ∨ 60 < x.toNat → bad (.holdTime a)) ∧
      (1 ≤ x.toNat → x.toNat ≤ 32 → accepted (.attnLevel a) { s with con := { s.con with attnLevel := x.toNat } }) ∧
      (x.toNat = 0 ∨ 32 < x.toNat → bad (.attnLevel a)) ∧
      (x.toNat = s.disp.image.width → x.toNat ∈ [16, 20, 24, 32, 40] →
        accepted (.displayWidth a) (rebuildAt x.toNat s)) ∧
      (x.toNat ≠ s.disp.image.width → x.toNat ∈ [16, 20, 24, 32, 40] →
        accepted (.displayWidth a) (rebuildAt x.toNat { s with
          dlink := ⟨none, s.dlink.txn.map fun x => { x with widthChanged := true }⟩ })) ∧
      (x.toNat ∉ [16, 20, 24, 32, 40] → bad (.displayWidth a))) ∧
    (a.params = [x, y] →
      (x.toNat ≤ 5 → y.toNat ≤ 4 →
        ∃ rate format, rateOfCode x.toNat = some rate ∧ formatOfCode y.toNat = some format ∧
          accepted (.linkFormat a)
            { s with ifl := { s.ifl with
              rate := rate, format := format, earlierFormats := s.ifl.format :: s.ifl.earlierFormats } }) ∧
      (5 < x.toNat ∨ 4 < y.toNat → bad (.linkFormat a))) ∧
    (a.params = [] →
      accepted (.remoteHold a) { s with arb := { s.arb with remoteHold := true } } ∧
      accepted (.release a) (State.granted { s with arb := { s.arb with remoteHold := false } }))

/-- R168, R169, R180, R190: ECHO and LINK FORMAT from the interface, outside a break, are taken without a report, and refused with a
REFUSED report out of range. -/
def Sys2Proof.Claims.InterfaceSettingsTaken : Prop :=
  ∀ (s : State) (a : Arrival) (x y : Byte), a.port = .interface → s.ifl.inBreak = false → s.ifl.inbound.length < 48 →
    let bad (code : Byte) : State := report s .interface a.tag (.refused .badParameter code .plain)
    (a.params = [x] →
      (x.toNat ≤ 1 → ∃ t, exec (.echo a) s = .next t ∧ Leaves s t { s with ifl := { s.ifl with echo := decide (x = 1) } }) ∧
      (1 < x.toNat → ∃ t, exec (.echo a) s = .next t ∧ Leaves s t (bad 0x65))) ∧
    (a.params = [x, y] →
      (∀ rate format, rateOfCode x.toNat = some rate → formatOfCode y.toNat = some format →
        ∃ t, exec (.linkFormat a) s = .next t ∧
          Leaves s t { s with ifl := { s.ifl with
            rate := rate, format := format, earlierFormats := s.ifl.format :: s.ifl.earlierFormats } }) ∧
      (rateOfCode x.toNat = none ∨ formatOfCode y.toNat = none →
        ∃ t, exec (.linkFormat a) s = .next t ∧ Leaves s t (bad 0x66)))

/-- R157, R169, R175, R176, R180, R187, R190: the settings of the links, the arbiter and the display, from either port. -/
def Obligations.LinksAndDisplaySet : Prop :=
  Sys2Proof.Claims.LinkSettingsTaken ∧ Sys2Proof.Claims.InterfaceSettingsTaken

/-- R3 to R8: WHEEL DEFINE with its parameters in range: the slot that holds the code already, else the slot named, takes a cleared
descriptor, unless it is the mounted wheel's with a strike outstanding (BUSY); the reply names the slot. WHEEL UNDEFINED leaves when
the mounted code gains a descriptor and joins when it loses it. Here the mechanism is busy and no PRINT waits. Out of range it is BAD
PARAMETER. With the mechanism at rest and a PRINT of another pitch class queued, the pitch test makes PITCH CHANGED join at the same
moment, and nothing begins; the state both MECH reports carry is the model's reading (log entry 8). -/
def Sys2Proof.Claims.WheelDefined : Prop :=
  ∀ (s : State) (a : Arrival) (slot code pitch : Byte), a.port = .console → a.params = [slot, code, pitch] →
    let inRange := slot.toNat ≤ 7 ∧ 1 ≤ code.toNat ∧ code.toNat ≤ 63 ∧ pitch.toNat ≤ 3
    let target := (s.wheels.findIdx? fun o => o.any fun d => d.code == code.toNat).getD slot.toNat
    let strikes := (s.seq.queue ++ (s.seq.inflight.map InFlight.entry).toList).any SEntry.strikes
    let mounted := (s.wheels.getD target none).any fun d => d.code == s.seq.mounted
    (¬inRange → ∃ t, exec (.wheelDefine a) s = .next t ∧ Leaves s t (s.answered [2, 1, 1] false)) ∧
    (inRange → mounted = true → strikes = true →
      ∃ t, exec (.wheelDefine a) s = .next t ∧ Leaves s t (s.answered [2, 1, 4] false)) ∧
    (inRange → (mounted = false ∨ strikes = false) → s.Engaged → (∀ e ∈ s.seq.queue, e.strikes = false) →
      (∀ f ∈ s.seq.inflight, f.stopped = true → f.entry.strikes = false) → s.seq.holds.pitchChanged = false →
      ∃ x, pitchOfCode pitch.toNat = some x ∧
        let wheels := s.wheels.set target (some ⟨code.toNat, x, List.replicate 100 ⟨none, 3, 2⟩⟩)
        let u := { s with wheels := wheels }
        let v := match findDescriptor s.wheels s.seq.mounted, findDescriptor wheels s.seq.mounted with
          | some _, none => joinHold .wheelUndefined u
          | none, some _ => leaveHold .wheelUndefined u
          | _, _ => u
        ∃ t, exec (.wheelDefine a) s = .next t ∧ Leaves s t (v.answered [0, 1, byte target] false)) ∧
    ∀ x, inRange → pitchOfCode pitch.toNat = some x → code.toNat = s.seq.mounted → slot.toNat < s.wheels.length →
      findDescriptor s.wheels s.seq.mounted = none → s.seq.fault = false → s.seq.homing = false → s.seq.moving = false →
      s.seq.homingRequest = false → s.seq.holds.wheelUndefined = true → s.seq.holds.pitchChanged = false →
      (∃ e ∈ s.seq.queue, ∃ q, e = .print q ∧ q.pitch ≠ x) →
      let h1 := { s.seq.holds with wheelUndefined := false }
      let h2 := { h1 with pitchChanged := true }
      ∃ t, exec (.wheelDefine a) s = .next t ∧
        Leaves s t (State.answered { s with
          wheels := s.wheels.set slot.toNat (some ⟨code.toNat, x, List.replicate 100 ⟨none, 3, 2⟩⟩)
          seq := { s.seq with holds := h2 }
          con := { s.con with
            reports := (s.con.reports.add ⟨.mech (.left .wheelUndefined) h1 .blocked, 0, false⟩).add
              ⟨.mech (.joined .pitchChanged) h2 .blocked, 0, true⟩ } } [0, 1, slot] false)

/-- R6, R7: WHEEL MAP: BAD PARAMETER out of range, SLOT EMPTY, BUSY for the mounted wheel with a strike outstanding, else its petal
records are written in order; a petal record written takes its code from any other petal, whose classes stay. That a set bit 6 of a
record's second byte is ignored is the model's choice (log entry 52). -/
def Sys2Proof.Claims.WheelMapped : Prop :=
  (∀ (s : State) (a : Arrival) (slot f k : Byte) (rest : List Byte), a.port = .console →
    a.params = slot :: f :: k :: rest → rest.length = 2 * k.toNat →
    let rs := petalsOfBytes rest
    let inRange := slot.toNat ≤ 7 ∧ k.toNat ≤ 20 ∧ f.toNat ≤ 99 ∧ f.toNat + k.toNat ≤ 100 ∧ ∀ r ∈ rs, r.valid = true
    let strikes := (s.seq.queue ++ (s.seq.inflight.map InFlight.entry).toList).any SEntry.strikes
    (¬inRange → ∃ t, exec (.wheelMap a) s = .next t ∧ Leaves s t (s.answered [2, 1, 1] false)) ∧
    (inRange → s.wheels.getD slot.toNat none = none →
      ∃ t, exec (.wheelMap a) s = .next t ∧ Leaves s t (s.answered [2, 1, 16] false)) ∧
    ∀ d, inRange → s.wheels.getD slot.toNat none = some d →
      (d.code = s.seq.mounted → strikes = true →
        ∃ t, exec (.wheelMap a) s = .next t ∧ Leaves s t (s.answered [2, 1, 4] false)) ∧
      (d.code ≠ s.seq.mounted ∨ strikes = false →
        ∃ t, exec (.wheelMap a) s = .next t ∧
          Leaves s t (State.answered { s with
            wheels := s.wheels.set slot.toNat (some { d with petals := writePetals d.petals f.toNat rs }) } [0, 0] false))) ∧
  ∀ (petals : List PetalRec) (n m : Nat) (r q : PetalRec), n < petals.length → petals[m]? = some q →
    (writePetal petals n r)[m]? =
      some (if m = n then r else if r.code ≠ none ∧ q.code = r.code then { q with code := none } else q)

/-- R3 to R8: WHEEL DEFINE and WHEEL MAP. -/
def Obligations.WheelTableWritten : Prop :=
  Sys2Proof.Claims.WheelDefined ∧ Sys2Proof.Claims.WheelMapped

/-- R48, R94, R96, R108, R131, R152, R183, R189, R195, R196: RESET ENGINE: the queues, the reports, the link flags, the compose line,
the print line, the correction, the strike queue, the correction memory and the word table are emptied; ENGINE RESET is the first
report, urgent, and the MECH report of PITCH CHANGED leaving follows it when it stood; the grant is NONE; a stopped entry in flight is
discarded and FAULT left; a moving one moves on to be discarded at its end, and the vertical position is 0 once nothing moves; the
homing request is set, and with nothing moving, no homing in progress and the cover closed homing starts at once; settings, tab stops,
wheels, word lists, rates and the display width stand. ENGINE RESET's tag 0 (log entry 14) and the state that the MECH report carries
(log entry 8) are the model's readings. -/
def Obligations.EngineReset : Prop :=
  ∀ (s : State) (a : Arrival), a.port = .console → a.params = [] →
    let lm := s.comp.pendingLm.getD s.comp.lm
    let starts : Bool := !s.seq.moving && !s.seq.homing && !s.seq.holds.coverOpen
    let h := { s.seq.holds with pitchChanged := false }
    let x : SeqState :=
      if s.seq.homing then .homing else if s.seq.moving then .running else if s.seq.holds.coverOpen then .blocked else .homing
    let left : List Record := if s.seq.holds.pitchChanged then [⟨.mech (.left .pitchChanged) h x, 0, false⟩] else []
    ∃ t, exec (.resetEngine a) s = .next t ∧
      Leaves s t { s with
        con := { s.con with
          inbound := [], reports := ⟨⟨.engineReset, 0, true⟩ :: left, false, 0, false⟩, frameError := false, overrun := false
          reply := [0, 0], txn := .replying false }
        ifl := { s.ifl with
          inbound := [], reports := ⟨[], false, 0, false⟩, framing := false, parity := false, overrun := false
          framingCount := 0, parityCount := 0, overrunCount := 0, assembly := .idle
          tx := s.ifl.tx.map fun x => { x with queued := false } }
        comp := { s.comp with
          line := none, printLine := none, printPoint := lm, vpos := 0, lm := lm, pendingLm := none
          consoleBold := false, consoleUnderline := false, interfaceBold := false, interfaceUnderline := false
          marginRelease := false, alignment := none, lineCounter := 0, correction := none, lastRefusal := none }
        arb := { s.arb with
          grant := none, remoteHold := false, timer := none, takeover := false, flushPending := false, headWaiting := false }
        seq := { s.seq with
          queue := [], fault := false, attempts := 0, holds := h, homingRequest := !starts
          inflight := if s.seq.moving then s.seq.inflight.map fun f => { f with discard := true } else none
          vpos := if s.seq.moving then s.seq.vpos else 0
          motion := if starts then .homeCarriage else s.seq.motion }
        mem := []
        spell := { s.spell with
          words := [], checks := (s.spell.checks.take 1).map fun c => { c with discarded := true } } }

/-- R168, R169: a console-only immediate command that the interface sends, complete, outside a break and with a place in its queue, is
refused with NOT ALLOWED and changes nothing else. -/
def Sys2Proof.Claims.ConsoleOnlyTurnedAway : Prop :=
  ∀ (s : State) (a : Arrival), a.port = .interface → s.ifl.inBreak = false → s.ifl.inbound.length < 48 →
    let turnedAway (row : Instr) (code : Byte) : Prop :=
      ∃ t, exec row s = .next t ∧ Leaves s t (report s .interface a.tag (.refused .notAllowed code .plain))
    (a.params = [] →
      turnedAway (.peek a) 0x70 ∧ turnedAway (.takeReport a) 0x74 ∧ turnedAway (.status a) 0x73 ∧
      turnedAway (.resume a) 0x78 ∧ turnedAway (.clearFault a) 0x63 ∧ turnedAway (.continueCmd a) 0x6E ∧
      turnedAway (.cancelPending a) 0x6B ∧ turnedAway (.accept a) 0x61 ∧ turnedAway (.acceptAndLearn a) 0x61 ∧
      turnedAway (.remoteHold a) 0x79 ∧ turnedAway (.release a) 0x79 ∧ turnedAway (.resetEngine a) 0x7A) ∧
    (∀ x, a.params = [x] →
      turnedAway (.displayWidth a) 0x77 ∧ turnedAway (.holdTime a) 0x68 ∧ turnedAway (.attnLevel a) 0x6F ∧
      turnedAway (.listClear a) 0x6C) ∧
    (∀ n letters, a.params = n :: letters → n.toNat = letters.length →
      turnedAway (.userWordAdd a) 0x75 ∧ turnedAway (.userWordRemove a) 0x75 ∧ turnedAway (.rejectWordAdd a) 0x76 ∧
      turnedAway (.rejectWordRemove a) 0x76) ∧
    (∀ x y z, a.params = [x, y, z] → turnedAway (.wheelDefine a) 0x64) ∧
    ∀ x y k rest, a.params = x :: y :: k :: rest → rest.length = 2 * k.toNat → turnedAway (.wheelMap a) 0x6D

/-- R171, R192, R193: the row of an immediate command from the interface, which is its sequence's last byte: in a break nothing is
decoded; with the inbound queue full it is an overrun, counted, with INTERFACE ERROR when the flag was clear. That the row stands for
that byte is the model's reading (log entry 23). -/
def Sys2Proof.Claims.InterfaceCommandLost : Prop :=
  ∀ (s : State) (a : Arrival), a.port = .interface →
    ∀ row ∈ [Instr.wordCheck a, .echo a, .linkFormat a, .peek a, .takeReport a, .status a, .resume a, .clearFault a,
      .continueCmd a, .cancelPending a, .accept a, .acceptAndLearn a, .userWordAdd a, .userWordRemove a, .rejectWordAdd a,
      .rejectWordRemove a, .listClear a, .wheelDefine a, .wheelMap a, .displayWidth a, .remoteHold a, .release a, .holdTime a,
      .attnLevel a, .resetEngine a],
    (s.ifl.inBreak = true → ∃ t, exec row s = .next t ∧ Leaves s t s) ∧
    (s.ifl.inBreak = false → 48 ≤ s.ifl.inbound.length →
      let u := { s with ifl := { s.ifl with
        overrun := true, overrunCount := min 255 (s.ifl.overrunCount + 1), assembly := .idle } }
      ∃ t, exec row s = .next t ∧
        Leaves s t
          (if s.ifl.overrun then u
          else report u .console 0 (.interfaceError .overrun s.ifl.framing s.ifl.parity true s.ifl.framingCount s.ifl.parityCount
            (min 255 (s.ifl.overrunCount + 1)))))

/-- R168, R169, R171, R192, R193: immediate commands of the interface that are refused or lost. -/
def Obligations.ConsoleCommandsNotAllowed : Prop :=
  Sys2Proof.Claims.ConsoleOnlyTurnedAway ∧ Sys2Proof.Claims.InterfaceCommandLost

end
end

