-- ==== Sys2Proof/Laws/State.lean ====
section
/-! SUPPORT. One lemma for each block and each named update of State: the blocks the update leaves as they were. -/

namespace Sys2Proof.Machine

/-! ## Updates of one block -/

@[simp] theorem setSeq_con (s : State) (q : Sequencer) : (s.setSeq q).con = s.con := rfl
@[simp] theorem setSeq_ifl (s : State) (q : Sequencer) : (s.setSeq q).ifl = s.ifl := rfl
@[simp] theorem setSeq_dlink (s : State) (q : Sequencer) : (s.setSeq q).dlink = s.dlink := rfl
@[simp] theorem setSeq_comp (s : State) (q : Sequencer) : (s.setSeq q).comp = s.comp := rfl
@[simp] theorem setSeq_arb (s : State) (q : Sequencer) : (s.setSeq q).arb = s.arb := rfl
@[simp] theorem setSeq_wheels (s : State) (q : Sequencer) : (s.setSeq q).wheels = s.wheels := rfl
@[simp] theorem setSeq_mem (s : State) (q : Sequencer) : (s.setSeq q).mem = s.mem := rfl
@[simp] theorem setSeq_spell (s : State) (q : Sequencer) : (s.setSeq q).spell = s.spell := rfl
@[simp] theorem setSeq_disp (s : State) (q : Sequencer) : (s.setSeq q).disp = s.disp := rfl
@[simp] theorem setSeq_pending (s : State) (q : Sequencer) : (s.setSeq q).pending = s.pending := rfl

@[simp] theorem setSeq_seq (s : State) (q : Sequencer) : (s.setSeq q).seq = q := rfl

@[simp] theorem setPoint_con (n : Nat) (s : State) : (setPoint n s).con = s.con := rfl
@[simp] theorem setPoint_ifl (n : Nat) (s : State) : (setPoint n s).ifl = s.ifl := rfl
@[simp] theorem setPoint_dlink (n : Nat) (s : State) : (setPoint n s).dlink = s.dlink := rfl
@[simp] theorem setPoint_arb (n : Nat) (s : State) : (setPoint n s).arb = s.arb := rfl
@[simp] theorem setPoint_wheels (n : Nat) (s : State) : (setPoint n s).wheels = s.wheels := rfl
@[simp] theorem setPoint_seq (n : Nat) (s : State) : (setPoint n s).seq = s.seq := rfl
@[simp] theorem setPoint_mem (n : Nat) (s : State) : (setPoint n s).mem = s.mem := rfl
@[simp] theorem setPoint_spell (n : Nat) (s : State) : (setPoint n s).spell = s.spell := rfl
@[simp] theorem setPoint_disp (n : Nat) (s : State) : (setPoint n s).disp = s.disp := rfl
@[simp] theorem setPoint_pending (n : Nat) (s : State) : (setPoint n s).pending = s.pending := rfl

@[simp] theorem setPoint_comp (n : Nat) (s : State) : (setPoint n s).comp = { s.comp with printPoint := n } := rfl

@[simp] theorem setEntries_con (s : State) (es : List Entry) : (s.setEntries es).con = s.con := rfl
@[simp] theorem setEntries_ifl (s : State) (es : List Entry) : (s.setEntries es).ifl = s.ifl := rfl
@[simp] theorem setEntries_dlink (s : State) (es : List Entry) : (s.setEntries es).dlink = s.dlink := rfl
@[simp] theorem setEntries_arb (s : State) (es : List Entry) : (s.setEntries es).arb = s.arb := rfl
@[simp] theorem setEntries_wheels (s : State) (es : List Entry) : (s.setEntries es).wheels = s.wheels := rfl
@[simp] theorem setEntries_seq (s : State) (es : List Entry) : (s.setEntries es).seq = s.seq := rfl
@[simp] theorem setEntries_mem (s : State) (es : List Entry) : (s.setEntries es).mem = s.mem := rfl
@[simp] theorem setEntries_spell (s : State) (es : List Entry) : (s.setEntries es).spell = s.spell := rfl
@[simp] theorem setEntries_disp (s : State) (es : List Entry) : (s.setEntries es).disp = s.disp := rfl
@[simp] theorem setEntries_pending (s : State) (es : List Entry) : (s.setEntries es).pending = s.pending := rfl

@[simp] theorem setEntries_comp (s : State) (es : List Entry) :
    (s.setEntries es).comp = { s.comp with line := s.comp.line.map fun l => { l with entries := es } } := rfl

@[simp] theorem useGroup_con (s : State) (g : Nat) : (s.useGroup g).con = s.con := rfl
@[simp] theorem useGroup_ifl (s : State) (g : Nat) : (s.useGroup g).ifl = s.ifl := rfl
@[simp] theorem useGroup_dlink (s : State) (g : Nat) : (s.useGroup g).dlink = s.dlink := rfl
@[simp] theorem useGroup_arb (s : State) (g : Nat) : (s.useGroup g).arb = s.arb := rfl
@[simp] theorem useGroup_wheels (s : State) (g : Nat) : (s.useGroup g).wheels = s.wheels := rfl
@[simp] theorem useGroup_seq (s : State) (g : Nat) : (s.useGroup g).seq = s.seq := rfl
@[simp] theorem useGroup_mem (s : State) (g : Nat) : (s.useGroup g).mem = s.mem := rfl
@[simp] theorem useGroup_spell (s : State) (g : Nat) : (s.useGroup g).spell = s.spell := rfl
@[simp] theorem useGroup_disp (s : State) (g : Nat) : (s.useGroup g).disp = s.disp := rfl
@[simp] theorem useGroup_pending (s : State) (g : Nat) : (s.useGroup g).pending = s.pending := rfl

@[simp] theorem useGroup_comp (s : State) (g : Nat) :
    (s.useGroup g).comp = { s.comp with groupCounter := nextGroup g } := rfl

@[simp] theorem place_con (es : List SEntry) (s : State) : (place es s).con = s.con := rfl
@[simp] theorem place_ifl (es : List SEntry) (s : State) : (place es s).ifl = s.ifl := rfl
@[simp] theorem place_dlink (es : List SEntry) (s : State) : (place es s).dlink = s.dlink := rfl
@[simp] theorem place_comp (es : List SEntry) (s : State) : (place es s).comp = s.comp := rfl
@[simp] theorem place_arb (es : List SEntry) (s : State) : (place es s).arb = s.arb := rfl
@[simp] theorem place_wheels (es : List SEntry) (s : State) : (place es s).wheels = s.wheels := rfl
@[simp] theorem place_mem (es : List SEntry) (s : State) : (place es s).mem = s.mem := rfl
@[simp] theorem place_spell (es : List SEntry) (s : State) : (place es s).spell = s.spell := rfl
@[simp] theorem place_disp (es : List SEntry) (s : State) : (place es s).disp = s.disp := rfl
@[simp] theorem place_pending (es : List SEntry) (s : State) : (place es s).pending = s.pending := rfl

@[simp] theorem place_seq (es : List SEntry) (s : State) :
    (place es s).seq = { s.seq with queue := s.seq.queue ++ es } := rfl

@[simp] theorem withdraw_con (g : Nat) (s : State) : (withdraw g s).con = s.con := rfl
@[simp] theorem withdraw_ifl (g : Nat) (s : State) : (withdraw g s).ifl = s.ifl := rfl
@[simp] theorem withdraw_dlink (g : Nat) (s : State) : (withdraw g s).dlink = s.dlink := rfl
@[simp] theorem withdraw_comp (g : Nat) (s : State) : (withdraw g s).comp = s.comp := rfl
@[simp] theorem withdraw_arb (g : Nat) (s : State) : (withdraw g s).arb = s.arb := rfl
@[simp] theorem withdraw_wheels (g : Nat) (s : State) : (withdraw g s).wheels = s.wheels := rfl
@[simp] theorem withdraw_mem (g : Nat) (s : State) : (withdraw g s).mem = s.mem := rfl
@[simp] theorem withdraw_spell (g : Nat) (s : State) : (withdraw g s).spell = s.spell := rfl
@[simp] theorem withdraw_disp (g : Nat) (s : State) : (withdraw g s).disp = s.disp := rfl
@[simp] theorem withdraw_pending (g : Nat) (s : State) : (withdraw g s).pending = s.pending := rfl

@[simp] theorem withdraw_seq (g : Nat) (s : State) :
    (withdraw g s).seq = { s.seq with queue := s.seq.queue.filter fun e => !(e.ofGroup g) } := rfl

@[simp] theorem clearMemory_con (s : State) : (clearMemory s).con = s.con := rfl
@[simp] theorem clearMemory_ifl (s : State) : (clearMemory s).ifl = s.ifl := rfl
@[simp] theorem clearMemory_dlink (s : State) : (clearMemory s).dlink = s.dlink := rfl
@[simp] theorem clearMemory_comp (s : State) : (clearMemory s).comp = s.comp := rfl
@[simp] theorem clearMemory_arb (s : State) : (clearMemory s).arb = s.arb := rfl
@[simp] theorem clearMemory_wheels (s : State) : (clearMemory s).wheels = s.wheels := rfl
@[simp] theorem clearMemory_seq (s : State) : (clearMemory s).seq = s.seq := rfl
@[simp] theorem clearMemory_spell (s : State) : (clearMemory s).spell = s.spell := rfl
@[simp] theorem clearMemory_disp (s : State) : (clearMemory s).disp = s.disp := rfl
@[simp] theorem clearMemory_pending (s : State) : (clearMemory s).pending = s.pending := rfl

@[simp] theorem clearMemory_mem (s : State) : (clearMemory s).mem = [] := rfl

@[simp] theorem setAssembly_con (a : Assembly) (s : State) : (setAssembly a s).con = s.con := rfl
@[simp] theorem setAssembly_dlink (a : Assembly) (s : State) : (setAssembly a s).dlink = s.dlink := rfl
@[simp] theorem setAssembly_comp (a : Assembly) (s : State) : (setAssembly a s).comp = s.comp := rfl
@[simp] theorem setAssembly_arb (a : Assembly) (s : State) : (setAssembly a s).arb = s.arb := rfl
@[simp] theorem setAssembly_wheels (a : Assembly) (s : State) : (setAssembly a s).wheels = s.wheels := rfl
@[simp] theorem setAssembly_seq (a : Assembly) (s : State) : (setAssembly a s).seq = s.seq := rfl
@[simp] theorem setAssembly_mem (a : Assembly) (s : State) : (setAssembly a s).mem = s.mem := rfl
@[simp] theorem setAssembly_spell (a : Assembly) (s : State) : (setAssembly a s).spell = s.spell := rfl
@[simp] theorem setAssembly_disp (a : Assembly) (s : State) : (setAssembly a s).disp = s.disp := rfl
@[simp] theorem setAssembly_pending (a : Assembly) (s : State) : (setAssembly a s).pending = s.pending := rfl

@[simp] theorem setAssembly_ifl (a : Assembly) (s : State) : (setAssembly a s).ifl = { s.ifl with assembly := a } := rfl

@[simp] theorem timerStep_con (s t : State) : (timerStep s t).con = t.con := rfl
@[simp] theorem timerStep_ifl (s t : State) : (timerStep s t).ifl = t.ifl := rfl
@[simp] theorem timerStep_dlink (s t : State) : (timerStep s t).dlink = t.dlink := rfl
@[simp] theorem timerStep_comp (s t : State) : (timerStep s t).comp = t.comp := rfl
@[simp] theorem timerStep_wheels (s t : State) : (timerStep s t).wheels = t.wheels := rfl
@[simp] theorem timerStep_seq (s t : State) : (timerStep s t).seq = t.seq := rfl
@[simp] theorem timerStep_mem (s t : State) : (timerStep s t).mem = t.mem := rfl
@[simp] theorem timerStep_spell (s t : State) : (timerStep s t).spell = t.spell := rfl
@[simp] theorem timerStep_disp (s t : State) : (timerStep s t).disp = t.disp := rfl
@[simp] theorem timerStep_pending (s t : State) : (timerStep s t).pending = t.pending := rfl

@[simp] theorem timerStep_arb (s t : State) : (timerStep s t).arb = { t.arb with timer := timerAfter s t } := rfl

@[simp] theorem requestHoming_con (s : State) : (requestHoming s).con = s.con := rfl
@[simp] theorem requestHoming_ifl (s : State) : (requestHoming s).ifl = s.ifl := rfl
@[simp] theorem requestHoming_dlink (s : State) : (requestHoming s).dlink = s.dlink := rfl
@[simp] theorem requestHoming_comp (s : State) : (requestHoming s).comp = s.comp := rfl
@[simp] theorem requestHoming_arb (s : State) : (requestHoming s).arb = s.arb := rfl
@[simp] theorem requestHoming_wheels (s : State) : (requestHoming s).wheels = s.wheels := rfl
@[simp] theorem requestHoming_mem (s : State) : (requestHoming s).mem = s.mem := rfl
@[simp] theorem requestHoming_spell (s : State) : (requestHoming s).spell = s.spell := rfl
@[simp] theorem requestHoming_disp (s : State) : (requestHoming s).disp = s.disp := rfl
@[simp] theorem requestHoming_pending (s : State) : (requestHoming s).pending = s.pending := rfl

@[simp] theorem requestHoming_seq (s : State) : (requestHoming s).seq = { s.seq with homingRequest := true } := rfl

@[simp] theorem endFlight_con (s : State) : (endFlight s).con = s.con := rfl
@[simp] theorem endFlight_ifl (s : State) : (endFlight s).ifl = s.ifl := rfl
@[simp] theorem endFlight_dlink (s : State) : (endFlight s).dlink = s.dlink := rfl
@[simp] theorem endFlight_comp (s : State) : (endFlight s).comp = s.comp := rfl
@[simp] theorem endFlight_arb (s : State) : (endFlight s).arb = s.arb := rfl
@[simp] theorem endFlight_wheels (s : State) : (endFlight s).wheels = s.wheels := rfl
@[simp] theorem endFlight_mem (s : State) : (endFlight s).mem = s.mem := rfl
@[simp] theorem endFlight_spell (s : State) : (endFlight s).spell = s.spell := rfl
@[simp] theorem endFlight_disp (s : State) : (endFlight s).disp = s.disp := rfl
@[simp] theorem endFlight_pending (s : State) : (endFlight s).pending = s.pending := rfl

@[simp] theorem endFlight_seq (s : State) : (endFlight s).seq = { s.seq with inflight := none, motion := .rest } := rfl

@[simp] theorem startHoming_con (s : State) : (startHoming s).con = s.con := rfl
@[simp] theorem startHoming_ifl (s : State) : (startHoming s).ifl = s.ifl := rfl
@[simp] theorem startHoming_dlink (s : State) : (startHoming s).dlink = s.dlink := rfl
@[simp] theorem startHoming_comp (s : State) : (startHoming s).comp = s.comp := rfl
@[simp] theorem startHoming_arb (s : State) : (startHoming s).arb = s.arb := rfl
@[simp] theorem startHoming_wheels (s : State) : (startHoming s).wheels = s.wheels := rfl
@[simp] theorem startHoming_mem (s : State) : (startHoming s).mem = s.mem := rfl
@[simp] theorem startHoming_spell (s : State) : (startHoming s).spell = s.spell := rfl
@[simp] theorem startHoming_disp (s : State) : (startHoming s).disp = s.disp := rfl
@[simp] theorem startHoming_pending (s : State) : (startHoming s).pending = s.pending := rfl

@[simp] theorem startHoming_seq (s : State) :
    (startHoming s).seq = { s.seq with homingRequest := false, motion := .homeCarriage, attempts := 0 } := rfl

@[simp] theorem stopHoming_con (s : State) : (stopHoming s).con = s.con := rfl
@[simp] theorem stopHoming_ifl (s : State) : (stopHoming s).ifl = s.ifl := rfl
@[simp] theorem stopHoming_dlink (s : State) : (stopHoming s).dlink = s.dlink := rfl
@[simp] theorem stopHoming_comp (s : State) : (stopHoming s).comp = s.comp := rfl
@[simp] theorem stopHoming_arb (s : State) : (stopHoming s).arb = s.arb := rfl
@[simp] theorem stopHoming_wheels (s : State) : (stopHoming s).wheels = s.wheels := rfl
@[simp] theorem stopHoming_mem (s : State) : (stopHoming s).mem = s.mem := rfl
@[simp] theorem stopHoming_spell (s : State) : (stopHoming s).spell = s.spell := rfl
@[simp] theorem stopHoming_disp (s : State) : (stopHoming s).disp = s.disp := rfl
@[simp] theorem stopHoming_pending (s : State) : (stopHoming s).pending = s.pending := rfl

@[simp] theorem stopHoming_seq (s : State) : (stopHoming s).seq = { s.seq with motion := .rest } := rfl

@[simp] theorem startMotion_con (f : InFlight) (m : Motion) (first : Bool) (s : State) : (startMotion f m first s).con = s.con := rfl
@[simp] theorem startMotion_ifl (f : InFlight) (m : Motion) (first : Bool) (s : State) : (startMotion f m first s).ifl = s.ifl := rfl
@[simp] theorem startMotion_dlink (f : InFlight) (m : Motion) (first : Bool) (s : State) : (startMotion f m first s).dlink = s.dlink := rfl
@[simp] theorem startMotion_comp (f : InFlight) (m : Motion) (first : Bool) (s : State) : (startMotion f m first s).comp = s.comp := rfl
@[simp] theorem startMotion_arb (f : InFlight) (m : Motion) (first : Bool) (s : State) : (startMotion f m first s).arb = s.arb := rfl
@[simp] theorem startMotion_wheels (f : InFlight) (m : Motion) (first : Bool) (s : State) : (startMotion f m first s).wheels = s.wheels := rfl
@[simp] theorem startMotion_mem (f : InFlight) (m : Motion) (first : Bool) (s : State) : (startMotion f m first s).mem = s.mem := rfl
@[simp] theorem startMotion_spell (f : InFlight) (m : Motion) (first : Bool) (s : State) : (startMotion f m first s).spell = s.spell := rfl
@[simp] theorem startMotion_disp (f : InFlight) (m : Motion) (first : Bool) (s : State) : (startMotion f m first s).disp = s.disp := rfl
@[simp] theorem startMotion_pending (f : InFlight) (m : Motion) (first : Bool) (s : State) : (startMotion f m first s).pending = s.pending := rfl

@[simp] theorem startMotion_seq (f : InFlight) (m : Motion) (first : Bool) (s : State) : (startMotion f m first s).seq =
    { s.seq with inflight := some f, motion := m, attempts := if first then 0 else s.seq.attempts } := rfl

/-! ## The links: an overrun of the select, and a change of width -/

@[simp] theorem overrunSelect_inbound (c : ConsoleLink) : c.overrunSelect.inbound = c.inbound := rfl
@[simp] theorem overrunSelect_reports (c : ConsoleLink) : c.overrunSelect.reports = c.reports := rfl
@[simp] theorem overrunSelect_attnLevel (c : ConsoleLink) : c.overrunSelect.attnLevel = c.attnLevel := rfl
@[simp] theorem overrunSelect_overrun (c : ConsoleLink) : c.overrunSelect.overrun = true := rfl
@[simp] theorem overrunSelect_txn (c : ConsoleLink) : c.overrunSelect.txn = .ignored := rfl
@[simp] theorem overrunSelect_reply (c : ConsoleLink) : c.overrunSelect.reply = [] := rfl

/-- R186: 0xFF throughout the transaction of an overrun. -/
@[simp] theorem overrunSelect_byteAt (c : ConsoleLink) (n k : Nat) : c.overrunSelect.byteAt n k = 0xFF := rfl

@[simp] theorem endContinuous_continuous (l : DisplayLink) : l.endContinuous.continuous = none := rfl
@[simp] theorem endContinuous_txn (l : DisplayLink) :
    l.endContinuous.txn = l.txn.map fun t => { t with widthChanged := true } := rfl

/-- R190: with no LINK FORMAT since its start bit, a character is read in the format in force. -/
theorem rxFormat_now (l : InterfaceLink) (rx : RxFrame) (h : rx.since = 0) : rxFormat l rx = l.format := by
  simp [rxFormat, h]

/-- R190: with one, in the format it replaced. -/
theorem rxFormat_before (l : InterfaceLink) (rx : RxFrame) (f : LineFormat) (rest : List LineFormat) (h : rx.since = 1)
    (hl : l.earlierFormats = f :: rest) : rxFormat l rx = f := by
  simp [rxFormat, h, hl]

end Sys2Proof.Machine
end

