-- ==== Sys2Proof/Laws/Frames.lean ====
section
/-! SUPPORT. Frames of the shared operations: the blocks of State each leaves as they were. -/

namespace Sys2Proof.Machine

/-! ## Reports, holds, grant -/

@[simp] theorem queueRecord_dlink (s : State) (p : Port) (r : Record) : (queueRecord s p r).dlink = s.dlink := by cases p <;> rfl
@[simp] theorem queueRecord_comp (s : State) (p : Port) (r : Record) : (queueRecord s p r).comp = s.comp := by cases p <;> rfl
@[simp] theorem queueRecord_arb (s : State) (p : Port) (r : Record) : (queueRecord s p r).arb = s.arb := by cases p <;> rfl
@[simp] theorem queueRecord_wheels (s : State) (p : Port) (r : Record) : (queueRecord s p r).wheels = s.wheels := by cases p <;> rfl
@[simp] theorem queueRecord_seq (s : State) (p : Port) (r : Record) : (queueRecord s p r).seq = s.seq := by cases p <;> rfl
@[simp] theorem queueRecord_mem (s : State) (p : Port) (r : Record) : (queueRecord s p r).mem = s.mem := by cases p <;> rfl
@[simp] theorem queueRecord_spell (s : State) (p : Port) (r : Record) : (queueRecord s p r).spell = s.spell := by cases p <;> rfl
@[simp] theorem queueRecord_disp (s : State) (p : Port) (r : Record) : (queueRecord s p r).disp = s.disp := by cases p <;> rfl
@[simp] theorem queueRecord_pending (s : State) (p : Port) (r : Record) : (queueRecord s p r).pending = s.pending := by cases p <;> rfl

@[simp] theorem report_dlink (s : State) (p : Port) (tag : Byte) (b : Report) : (report s p tag b).dlink = s.dlink := by cases p <;> rfl
@[simp] theorem report_comp (s : State) (p : Port) (tag : Byte) (b : Report) : (report s p tag b).comp = s.comp := by cases p <;> rfl
@[simp] theorem report_arb (s : State) (p : Port) (tag : Byte) (b : Report) : (report s p tag b).arb = s.arb := by cases p <;> rfl
@[simp] theorem report_wheels (s : State) (p : Port) (tag : Byte) (b : Report) : (report s p tag b).wheels = s.wheels := by cases p <;> rfl
@[simp] theorem report_seq (s : State) (p : Port) (tag : Byte) (b : Report) : (report s p tag b).seq = s.seq := by cases p <;> rfl
@[simp] theorem report_mem (s : State) (p : Port) (tag : Byte) (b : Report) : (report s p tag b).mem = s.mem := by cases p <;> rfl
@[simp] theorem report_spell (s : State) (p : Port) (tag : Byte) (b : Report) : (report s p tag b).spell = s.spell := by cases p <;> rfl
@[simp] theorem report_disp (s : State) (p : Port) (tag : Byte) (b : Report) : (report s p tag b).disp = s.disp := by cases p <;> rfl
@[simp] theorem report_pending (s : State) (p : Port) (tag : Byte) (b : Report) : (report s p tag b).pending = s.pending := by cases p <;> rfl

@[simp] theorem setInbound_dlink (s : State) (p : Port) (q : List QItem) : (s.setInbound p q).dlink = s.dlink := by cases p <;> rfl
@[simp] theorem setInbound_comp (s : State) (p : Port) (q : List QItem) : (s.setInbound p q).comp = s.comp := by cases p <;> rfl
@[simp] theorem setInbound_arb (s : State) (p : Port) (q : List QItem) : (s.setInbound p q).arb = s.arb := by cases p <;> rfl
@[simp] theorem setInbound_wheels (s : State) (p : Port) (q : List QItem) : (s.setInbound p q).wheels = s.wheels := by cases p <;> rfl
@[simp] theorem setInbound_seq (s : State) (p : Port) (q : List QItem) : (s.setInbound p q).seq = s.seq := by cases p <;> rfl
@[simp] theorem setInbound_mem (s : State) (p : Port) (q : List QItem) : (s.setInbound p q).mem = s.mem := by cases p <;> rfl
@[simp] theorem setInbound_spell (s : State) (p : Port) (q : List QItem) : (s.setInbound p q).spell = s.spell := by cases p <;> rfl
@[simp] theorem setInbound_disp (s : State) (p : Port) (q : List QItem) : (s.setInbound p q).disp = s.disp := by cases p <;> rfl
@[simp] theorem setInbound_pending (s : State) (p : Port) (q : List QItem) : (s.setInbound p q).pending = s.pending := by cases p <;> rfl

@[simp] theorem joinHold_ifl (h : Hold) (s : State) : (joinHold h s).ifl = s.ifl := by
  unfold joinHold; split <;> rfl
@[simp] theorem joinHold_dlink (h : Hold) (s : State) : (joinHold h s).dlink = s.dlink := by
  unfold joinHold; split <;> rfl
@[simp] theorem joinHold_comp (h : Hold) (s : State) : (joinHold h s).comp = s.comp := by
  unfold joinHold; split <;> rfl
@[simp] theorem joinHold_arb (h : Hold) (s : State) : (joinHold h s).arb = s.arb := by
  unfold joinHold; split <;> rfl
@[simp] theorem joinHold_wheels (h : Hold) (s : State) : (joinHold h s).wheels = s.wheels := by
  unfold joinHold; split <;> rfl
@[simp] theorem joinHold_mem (h : Hold) (s : State) : (joinHold h s).mem = s.mem := by
  unfold joinHold; split <;> rfl
@[simp] theorem joinHold_spell (h : Hold) (s : State) : (joinHold h s).spell = s.spell := by
  unfold joinHold; split <;> rfl
@[simp] theorem joinHold_disp (h : Hold) (s : State) : (joinHold h s).disp = s.disp := by
  unfold joinHold; split <;> rfl
@[simp] theorem joinHold_pending (h : Hold) (s : State) : (joinHold h s).pending = s.pending := by
  unfold joinHold; split <;> rfl

@[simp] theorem leaveHoldAs_ifl (h : Hold) (x : SeqState) (s : State) : (leaveHoldAs h x s).ifl = s.ifl := by
  unfold leaveHoldAs; split <;> rfl
@[simp] theorem leaveHoldAs_dlink (h : Hold) (x : SeqState) (s : State) : (leaveHoldAs h x s).dlink = s.dlink := by
  unfold leaveHoldAs; split <;> rfl
@[simp] theorem leaveHoldAs_comp (h : Hold) (x : SeqState) (s : State) : (leaveHoldAs h x s).comp = s.comp := by
  unfold leaveHoldAs; split <;> rfl
@[simp] theorem leaveHoldAs_arb (h : Hold) (x : SeqState) (s : State) : (leaveHoldAs h x s).arb = s.arb := by
  unfold leaveHoldAs; split <;> rfl
@[simp] theorem leaveHoldAs_wheels (h : Hold) (x : SeqState) (s : State) : (leaveHoldAs h x s).wheels = s.wheels := by
  unfold leaveHoldAs; split <;> rfl
@[simp] theorem leaveHoldAs_mem (h : Hold) (x : SeqState) (s : State) : (leaveHoldAs h x s).mem = s.mem := by
  unfold leaveHoldAs; split <;> rfl
@[simp] theorem leaveHoldAs_spell (h : Hold) (x : SeqState) (s : State) : (leaveHoldAs h x s).spell = s.spell := by
  unfold leaveHoldAs; split <;> rfl
@[simp] theorem leaveHoldAs_disp (h : Hold) (x : SeqState) (s : State) : (leaveHoldAs h x s).disp = s.disp := by
  unfold leaveHoldAs; split <;> rfl
@[simp] theorem leaveHoldAs_pending (h : Hold) (x : SeqState) (s : State) : (leaveHoldAs h x s).pending = s.pending := by
  unfold leaveHoldAs; split <;> rfl

@[simp] theorem leaveHold_ifl (h : Hold) (s : State) : (leaveHold h s).ifl = s.ifl := leaveHoldAs_ifl _ _ _
@[simp] theorem leaveHold_dlink (h : Hold) (s : State) : (leaveHold h s).dlink = s.dlink := leaveHoldAs_dlink _ _ _
@[simp] theorem leaveHold_comp (h : Hold) (s : State) : (leaveHold h s).comp = s.comp := leaveHoldAs_comp _ _ _
@[simp] theorem leaveHold_arb (h : Hold) (s : State) : (leaveHold h s).arb = s.arb := leaveHoldAs_arb _ _ _
@[simp] theorem leaveHold_wheels (h : Hold) (s : State) : (leaveHold h s).wheels = s.wheels := leaveHoldAs_wheels _ _ _
@[simp] theorem leaveHold_mem (h : Hold) (s : State) : (leaveHold h s).mem = s.mem := leaveHoldAs_mem _ _ _
@[simp] theorem leaveHold_spell (h : Hold) (s : State) : (leaveHold h s).spell = s.spell := leaveHoldAs_spell _ _ _
@[simp] theorem leaveHold_disp (h : Hold) (s : State) : (leaveHold h s).disp = s.disp := leaveHoldAs_disp _ _ _
@[simp] theorem leaveHold_pending (h : Hold) (s : State) : (leaveHold h s).pending = s.pending := leaveHoldAs_pending _ _ _

@[simp] theorem pitchTest_ifl (d : Descriptor) (s : State) : (pitchTest d s).ifl = s.ifl := by
  unfold pitchTest; split <;> simp
@[simp] theorem pitchTest_dlink (d : Descriptor) (s : State) : (pitchTest d s).dlink = s.dlink := by
  unfold pitchTest; split <;> simp
@[simp] theorem pitchTest_comp (d : Descriptor) (s : State) : (pitchTest d s).comp = s.comp := by
  unfold pitchTest; split <;> simp
@[simp] theorem pitchTest_arb (d : Descriptor) (s : State) : (pitchTest d s).arb = s.arb := by
  unfold pitchTest; split <;> simp
@[simp] theorem pitchTest_wheels (d : Descriptor) (s : State) : (pitchTest d s).wheels = s.wheels := by
  unfold pitchTest; split <;> simp
@[simp] theorem pitchTest_mem (d : Descriptor) (s : State) : (pitchTest d s).mem = s.mem := by
  unfold pitchTest; split <;> simp
@[simp] theorem pitchTest_spell (d : Descriptor) (s : State) : (pitchTest d s).spell = s.spell := by
  unfold pitchTest; split <;> simp
@[simp] theorem pitchTest_disp (d : Descriptor) (s : State) : (pitchTest d s).disp = s.disp := by
  unfold pitchTest; split <;> simp
@[simp] theorem pitchTest_pending (d : Descriptor) (s : State) : (pitchTest d s).pending = s.pending := by
  unfold pitchTest; split <;> simp

@[simp] theorem decideGrant_con (s : State) : (decideGrant s).con = s.con := by
  unfold decideGrant; split <;> rfl
@[simp] theorem decideGrant_ifl (s : State) : (decideGrant s).ifl = s.ifl := by
  unfold decideGrant; split <;> rfl
@[simp] theorem decideGrant_dlink (s : State) : (decideGrant s).dlink = s.dlink := by
  unfold decideGrant; split <;> rfl
@[simp] theorem decideGrant_comp (s : State) : (decideGrant s).comp = s.comp := by
  unfold decideGrant; split <;> rfl
@[simp] theorem decideGrant_wheels (s : State) : (decideGrant s).wheels = s.wheels := by
  unfold decideGrant; split <;> rfl
@[simp] theorem decideGrant_seq (s : State) : (decideGrant s).seq = s.seq := by
  unfold decideGrant; split <;> rfl
@[simp] theorem decideGrant_mem (s : State) : (decideGrant s).mem = s.mem := by
  unfold decideGrant; split <;> rfl
@[simp] theorem decideGrant_spell (s : State) : (decideGrant s).spell = s.spell := by
  unfold decideGrant; split <;> rfl
@[simp] theorem decideGrant_disp (s : State) : (decideGrant s).disp = s.disp := by
  unfold decideGrant; split <;> rfl
@[simp] theorem decideGrant_pending (s : State) : (decideGrant s).pending = s.pending := by
  unfold decideGrant; split <;> rfl

@[simp] theorem enqueue_dlink (p : Port) (it : QItem) (s : State) : (enqueue p it s).dlink = s.dlink := by
  unfold enqueue; dsimp only; split <;> simp
@[simp] theorem enqueue_comp (p : Port) (it : QItem) (s : State) : (enqueue p it s).comp = s.comp := by
  unfold enqueue; dsimp only; split <;> simp
@[simp] theorem enqueue_wheels (p : Port) (it : QItem) (s : State) : (enqueue p it s).wheels = s.wheels := by
  unfold enqueue; dsimp only; split <;> simp
@[simp] theorem enqueue_seq (p : Port) (it : QItem) (s : State) : (enqueue p it s).seq = s.seq := by
  unfold enqueue; dsimp only; split <;> simp
@[simp] theorem enqueue_mem (p : Port) (it : QItem) (s : State) : (enqueue p it s).mem = s.mem := by
  unfold enqueue; dsimp only; split <;> simp
@[simp] theorem enqueue_spell (p : Port) (it : QItem) (s : State) : (enqueue p it s).spell = s.spell := by
  unfold enqueue; dsimp only; split <;> simp
@[simp] theorem enqueue_disp (p : Port) (it : QItem) (s : State) : (enqueue p it s).disp = s.disp := by
  unfold enqueue; dsimp only; split <;> simp
@[simp] theorem enqueue_pending (p : Port) (it : QItem) (s : State) : (enqueue p it s).pending = s.pending := by
  unfold enqueue; dsimp only; split <;> simp

/-! ## The line store and the spelling unit -/

@[simp] theorem refreshMarkers_con (s : State) : (refreshMarkers s).con = s.con := rfl
@[simp] theorem refreshMarkers_ifl (s : State) : (refreshMarkers s).ifl = s.ifl := rfl
@[simp] theorem refreshMarkers_dlink (s : State) : (refreshMarkers s).dlink = s.dlink := rfl
@[simp] theorem refreshMarkers_arb (s : State) : (refreshMarkers s).arb = s.arb := rfl
@[simp] theorem refreshMarkers_wheels (s : State) : (refreshMarkers s).wheels = s.wheels := rfl
@[simp] theorem refreshMarkers_seq (s : State) : (refreshMarkers s).seq = s.seq := rfl
@[simp] theorem refreshMarkers_mem (s : State) : (refreshMarkers s).mem = s.mem := rfl
@[simp] theorem refreshMarkers_spell (s : State) : (refreshMarkers s).spell = s.spell := rfl
@[simp] theorem refreshMarkers_disp (s : State) : (refreshMarkers s).disp = s.disp := rfl
@[simp] theorem refreshMarkers_pending (s : State) : (refreshMarkers s).pending = s.pending := rfl

@[simp] theorem respell_con (s : State) : (respell s).con = s.con := by
  unfold respell; split <;> rfl
@[simp] theorem respell_ifl (s : State) : (respell s).ifl = s.ifl := by
  unfold respell; split <;> rfl
@[simp] theorem respell_dlink (s : State) : (respell s).dlink = s.dlink := by
  unfold respell; split <;> rfl
@[simp] theorem respell_arb (s : State) : (respell s).arb = s.arb := by
  unfold respell; split <;> rfl
@[simp] theorem respell_wheels (s : State) : (respell s).wheels = s.wheels := by
  unfold respell; split <;> rfl
@[simp] theorem respell_seq (s : State) : (respell s).seq = s.seq := by
  unfold respell; split <;> rfl
@[simp] theorem respell_mem (s : State) : (respell s).mem = s.mem := by
  unfold respell; split <;> rfl
@[simp] theorem respell_disp (s : State) : (respell s).disp = s.disp := by
  unfold respell; split <;> rfl
@[simp] theorem respell_pending (s : State) : (respell s).pending = s.pending := by
  unfold respell; split <;> rfl

@[simp] theorem completeLast_con (s : State) : (completeLast s).con = s.con := by
  unfold completeLast; split <;> (try split) <;> rfl
@[simp] theorem completeLast_ifl (s : State) : (completeLast s).ifl = s.ifl := by
  unfold completeLast; split <;> (try split) <;> rfl
@[simp] theorem completeLast_dlink (s : State) : (completeLast s).dlink = s.dlink := by
  unfold completeLast; split <;> (try split) <;> rfl
@[simp] theorem completeLast_comp (s : State) : (completeLast s).comp = s.comp := by
  unfold completeLast; split <;> (try split) <;> rfl
@[simp] theorem completeLast_arb (s : State) : (completeLast s).arb = s.arb := by
  unfold completeLast; split <;> (try split) <;> rfl
@[simp] theorem completeLast_wheels (s : State) : (completeLast s).wheels = s.wheels := by
  unfold completeLast; split <;> (try split) <;> rfl
@[simp] theorem completeLast_seq (s : State) : (completeLast s).seq = s.seq := by
  unfold completeLast; split <;> (try split) <;> rfl
@[simp] theorem completeLast_mem (s : State) : (completeLast s).mem = s.mem := by
  unfold completeLast; split <;> (try split) <;> rfl
@[simp] theorem completeLast_disp (s : State) : (completeLast s).disp = s.disp := by
  unfold completeLast; split <;> (try split) <;> rfl
@[simp] theorem completeLast_pending (s : State) : (completeLast s).pending = s.pending := by
  unfold completeLast; split <;> (try split) <;> rfl

@[simp] theorem endWords_con (s : State) : (endWords s).con = s.con := by
  unfold endWords; simp
@[simp] theorem endWords_ifl (s : State) : (endWords s).ifl = s.ifl := by
  unfold endWords; simp
@[simp] theorem endWords_dlink (s : State) : (endWords s).dlink = s.dlink := by
  unfold endWords; simp
@[simp] theorem endWords_comp (s : State) : (endWords s).comp = s.comp := by
  unfold endWords; simp
@[simp] theorem endWords_arb (s : State) : (endWords s).arb = s.arb := by
  unfold endWords; simp
@[simp] theorem endWords_wheels (s : State) : (endWords s).wheels = s.wheels := by
  unfold endWords; simp
@[simp] theorem endWords_seq (s : State) : (endWords s).seq = s.seq := by
  unfold endWords; simp
@[simp] theorem endWords_mem (s : State) : (endWords s).mem = s.mem := by
  unfold endWords; simp
@[simp] theorem endWords_disp (s : State) : (endWords s).disp = s.disp := by
  unfold endWords; simp
@[simp] theorem endWords_pending (s : State) : (endWords s).pending = s.pending := by
  unfold endWords; simp

@[simp] theorem openLine_con (p : Port) (s : State) : (openLine p s).con = s.con := by
  unfold openLine; split <;> rfl
@[simp] theorem openLine_ifl (p : Port) (s : State) : (openLine p s).ifl = s.ifl := by
  unfold openLine; split <;> rfl
@[simp] theorem openLine_dlink (p : Port) (s : State) : (openLine p s).dlink = s.dlink := by
  unfold openLine; split <;> rfl
@[simp] theorem openLine_arb (p : Port) (s : State) : (openLine p s).arb = s.arb := by
  unfold openLine; split <;> rfl
@[simp] theorem openLine_wheels (p : Port) (s : State) : (openLine p s).wheels = s.wheels := by
  unfold openLine; split <;> rfl
@[simp] theorem openLine_seq (p : Port) (s : State) : (openLine p s).seq = s.seq := by
  unfold openLine; split <;> rfl
@[simp] theorem openLine_mem (p : Port) (s : State) : (openLine p s).mem = s.mem := by
  unfold openLine; split <;> rfl
@[simp] theorem openLine_disp (p : Port) (s : State) : (openLine p s).disp = s.disp := by
  unfold openLine; split <;> rfl
@[simp] theorem openLine_pending (p : Port) (s : State) : (openLine p s).pending = s.pending := by
  unfold openLine; split <;> rfl

@[simp] theorem addEntry_con (e : Entry) (n : Nat) (s : State) : (addEntry e n s).con = s.con := by
  unfold addEntry; simp
@[simp] theorem addEntry_ifl (e : Entry) (n : Nat) (s : State) : (addEntry e n s).ifl = s.ifl := by
  unfold addEntry; simp
@[simp] theorem addEntry_dlink (e : Entry) (n : Nat) (s : State) : (addEntry e n s).dlink = s.dlink := by
  unfold addEntry; simp
@[simp] theorem addEntry_arb (e : Entry) (n : Nat) (s : State) : (addEntry e n s).arb = s.arb := by
  unfold addEntry; simp
@[simp] theorem addEntry_wheels (e : Entry) (n : Nat) (s : State) : (addEntry e n s).wheels = s.wheels := by
  unfold addEntry; simp
@[simp] theorem addEntry_seq (e : Entry) (n : Nat) (s : State) : (addEntry e n s).seq = s.seq := by
  unfold addEntry; simp
@[simp] theorem addEntry_mem (e : Entry) (n : Nat) (s : State) : (addEntry e n s).mem = s.mem := by
  unfold addEntry; simp
@[simp] theorem addEntry_disp (e : Entry) (n : Nat) (s : State) : (addEntry e n s).disp = s.disp := by
  unfold addEntry; simp
@[simp] theorem addEntry_pending (e : Entry) (n : Nat) (s : State) : (addEntry e n s).pending = s.pending := by
  unfold addEntry; simp

@[simp] theorem closeLine_con (c : Bool) (s : State) : (closeLine c s).con = s.con := by
  unfold closeLine; split <;> simp
@[simp] theorem closeLine_ifl (c : Bool) (s : State) : (closeLine c s).ifl = s.ifl := by
  unfold closeLine; split <;> simp
@[simp] theorem closeLine_dlink (c : Bool) (s : State) : (closeLine c s).dlink = s.dlink := by
  unfold closeLine; split <;> simp
@[simp] theorem closeLine_arb (c : Bool) (s : State) : (closeLine c s).arb = s.arb := by
  unfold closeLine; split <;> simp
@[simp] theorem closeLine_wheels (c : Bool) (s : State) : (closeLine c s).wheels = s.wheels := by
  unfold closeLine; split <;> simp
@[simp] theorem closeLine_seq (c : Bool) (s : State) : (closeLine c s).seq = s.seq := by
  unfold closeLine; split <;> simp
@[simp] theorem closeLine_mem (c : Bool) (s : State) : (closeLine c s).mem = s.mem := by
  unfold closeLine; split <;> simp
@[simp] theorem closeLine_disp (c : Bool) (s : State) : (closeLine c s).disp = s.disp := by
  unfold closeLine; split <;> simp
@[simp] theorem closeLine_pending (c : Bool) (s : State) : (closeLine c s).pending = s.pending := by
  unfold closeLine; split <;> simp

@[simp] theorem returnMove_con (s : State) : (returnMove s).con = s.con := by
  unfold returnMove; simp
@[simp] theorem returnMove_ifl (s : State) : (returnMove s).ifl = s.ifl := by
  unfold returnMove; simp
@[simp] theorem returnMove_dlink (s : State) : (returnMove s).dlink = s.dlink := by
  unfold returnMove; simp
@[simp] theorem returnMove_arb (s : State) : (returnMove s).arb = s.arb := by
  unfold returnMove; simp
@[simp] theorem returnMove_wheels (s : State) : (returnMove s).wheels = s.wheels := by
  unfold returnMove; simp
@[simp] theorem returnMove_seq (s : State) : (returnMove s).seq = s.seq := by
  unfold returnMove; simp
@[simp] theorem returnMove_mem (s : State) : (returnMove s).mem = s.mem := by
  unfold returnMove; simp
@[simp] theorem returnMove_disp (s : State) : (returnMove s).disp = s.disp := by
  unfold returnMove; simp
@[simp] theorem returnMove_pending (s : State) : (returnMove s).pending = s.pending := by
  unfold returnMove; simp

@[simp] theorem setSpellMode_con (m : SpellMode) (s : State) : (setSpellMode m s).con = s.con := by cases m <;> rfl
@[simp] theorem setSpellMode_ifl (m : SpellMode) (s : State) : (setSpellMode m s).ifl = s.ifl := by cases m <;> rfl
@[simp] theorem setSpellMode_dlink (m : SpellMode) (s : State) : (setSpellMode m s).dlink = s.dlink := by cases m <;> rfl
@[simp] theorem setSpellMode_comp (m : SpellMode) (s : State) : (setSpellMode m s).comp = s.comp := by cases m <;> rfl
@[simp] theorem setSpellMode_arb (m : SpellMode) (s : State) : (setSpellMode m s).arb = s.arb := by cases m <;> rfl
@[simp] theorem setSpellMode_wheels (m : SpellMode) (s : State) : (setSpellMode m s).wheels = s.wheels := by cases m <;> rfl
@[simp] theorem setSpellMode_seq (m : SpellMode) (s : State) : (setSpellMode m s).seq = s.seq := by cases m <;> rfl
@[simp] theorem setSpellMode_mem (m : SpellMode) (s : State) : (setSpellMode m s).mem = s.mem := by cases m <;> rfl
@[simp] theorem setSpellMode_disp (m : SpellMode) (s : State) : (setSpellMode m s).disp = s.disp := by cases m <;> rfl
@[simp] theorem setSpellMode_pending (m : SpellMode) (s : State) : (setSpellMode m s).pending = s.pending := by cases m <;> rfl

@[simp] theorem acceptWords_con (s : State) : (acceptWords s).con = s.con := by
  unfold acceptWords; simp
@[simp] theorem acceptWords_ifl (s : State) : (acceptWords s).ifl = s.ifl := by
  unfold acceptWords; simp
@[simp] theorem acceptWords_dlink (s : State) : (acceptWords s).dlink = s.dlink := by
  unfold acceptWords; simp
@[simp] theorem acceptWords_arb (s : State) : (acceptWords s).arb = s.arb := by
  unfold acceptWords; simp
@[simp] theorem acceptWords_wheels (s : State) : (acceptWords s).wheels = s.wheels := by
  unfold acceptWords; simp
@[simp] theorem acceptWords_seq (s : State) : (acceptWords s).seq = s.seq := by
  unfold acceptWords; simp
@[simp] theorem acceptWords_mem (s : State) : (acceptWords s).mem = s.mem := by
  unfold acceptWords; simp
@[simp] theorem acceptWords_disp (s : State) : (acceptWords s).disp = s.disp := by
  unfold acceptWords; simp
@[simp] theorem acceptWords_pending (s : State) : (acceptWords s).pending = s.pending := by
  unfold acceptWords; simp

@[simp] theorem applyResult_con (id : Nat) (r : CheckResult) (s : State) : (applyResult id r s).con = s.con := by
  unfold applyResult; simp
@[simp] theorem applyResult_ifl (id : Nat) (r : CheckResult) (s : State) : (applyResult id r s).ifl = s.ifl := by
  unfold applyResult; simp
@[simp] theorem applyResult_dlink (id : Nat) (r : CheckResult) (s : State) : (applyResult id r s).dlink = s.dlink := by
  unfold applyResult; simp
@[simp] theorem applyResult_arb (id : Nat) (r : CheckResult) (s : State) : (applyResult id r s).arb = s.arb := by
  unfold applyResult; simp
@[simp] theorem applyResult_wheels (id : Nat) (r : CheckResult) (s : State) : (applyResult id r s).wheels = s.wheels := by
  unfold applyResult; simp
@[simp] theorem applyResult_seq (id : Nat) (r : CheckResult) (s : State) : (applyResult id r s).seq = s.seq := by
  unfold applyResult; simp
@[simp] theorem applyResult_mem (id : Nat) (r : CheckResult) (s : State) : (applyResult id r s).mem = s.mem := by
  unfold applyResult; simp
@[simp] theorem applyResult_disp (id : Nat) (r : CheckResult) (s : State) : (applyResult id r s).disp = s.disp := by
  unfold applyResult; simp
@[simp] theorem applyResult_pending (id : Nat) (r : CheckResult) (s : State) : (applyResult id r s).pending = s.pending := by
  unfold applyResult; simp

@[simp] theorem spellAlert_dlink (letters : List Byte) (start v : Nat) (port : Port) (r : CheckResult) (s : State) : (spellAlert letters start v port r s).dlink = s.dlink := by
  unfold spellAlert; dsimp only; (repeat' split) <;> simp
@[simp] theorem spellAlert_comp (letters : List Byte) (start v : Nat) (port : Port) (r : CheckResult) (s : State) : (spellAlert letters start v port r s).comp = s.comp := by
  unfold spellAlert; dsimp only; (repeat' split) <;> simp
@[simp] theorem spellAlert_arb (letters : List Byte) (start v : Nat) (port : Port) (r : CheckResult) (s : State) : (spellAlert letters start v port r s).arb = s.arb := by
  unfold spellAlert; dsimp only; (repeat' split) <;> simp
@[simp] theorem spellAlert_wheels (letters : List Byte) (start v : Nat) (port : Port) (r : CheckResult) (s : State) : (spellAlert letters start v port r s).wheels = s.wheels := by
  unfold spellAlert; dsimp only; (repeat' split) <;> simp
@[simp] theorem spellAlert_seq (letters : List Byte) (start v : Nat) (port : Port) (r : CheckResult) (s : State) : (spellAlert letters start v port r s).seq = s.seq := by
  unfold spellAlert; dsimp only; (repeat' split) <;> simp
@[simp] theorem spellAlert_mem (letters : List Byte) (start v : Nat) (port : Port) (r : CheckResult) (s : State) : (spellAlert letters start v port r s).mem = s.mem := by
  unfold spellAlert; dsimp only; (repeat' split) <;> simp
@[simp] theorem spellAlert_spell (letters : List Byte) (start v : Nat) (port : Port) (r : CheckResult) (s : State) : (spellAlert letters start v port r s).spell = s.spell := by
  unfold spellAlert; dsimp only; (repeat' split) <;> simp
@[simp] theorem spellAlert_disp (letters : List Byte) (start v : Nat) (port : Port) (r : CheckResult) (s : State) : (spellAlert letters start v port r s).disp = s.disp := by
  unfold spellAlert; dsimp only; (repeat' split) <;> simp
@[simp] theorem spellAlert_pending (letters : List Byte) (start v : Nat) (port : Port) (r : CheckResult) (s : State) : (spellAlert letters start v port r s).pending = s.pending := by
  unfold spellAlert; dsimp only; (repeat' split) <;> simp

@[simp] theorem completeCheck_dlink (s : State) : (completeCheck s).dlink = s.dlink := by
  unfold completeCheck; dsimp only; (repeat' split) <;> simp
@[simp] theorem completeCheck_arb (s : State) : (completeCheck s).arb = s.arb := by
  unfold completeCheck; dsimp only; (repeat' split) <;> simp
@[simp] theorem completeCheck_wheels (s : State) : (completeCheck s).wheels = s.wheels := by
  unfold completeCheck; dsimp only; (repeat' split) <;> simp
@[simp] theorem completeCheck_seq (s : State) : (completeCheck s).seq = s.seq := by
  unfold completeCheck; dsimp only; (repeat' split) <;> simp
@[simp] theorem completeCheck_mem (s : State) : (completeCheck s).mem = s.mem := by
  unfold completeCheck; dsimp only; (repeat' split) <;> simp
@[simp] theorem completeCheck_disp (s : State) : (completeCheck s).disp = s.disp := by
  unfold completeCheck; dsimp only; (repeat' split) <;> simp
@[simp] theorem completeCheck_pending (s : State) : (completeCheck s).pending = s.pending := by
  unfold completeCheck; dsimp only; (repeat' split) <;> simp

@[simp] theorem tellStrike_con (g : Nat) (s : State) : (tellStrike g s).con = s.con := by
  unfold tellStrike; split <;> rfl
@[simp] theorem tellStrike_ifl (g : Nat) (s : State) : (tellStrike g s).ifl = s.ifl := by
  unfold tellStrike; split <;> rfl
@[simp] theorem tellStrike_dlink (g : Nat) (s : State) : (tellStrike g s).dlink = s.dlink := by
  unfold tellStrike; split <;> rfl
@[simp] theorem tellStrike_arb (g : Nat) (s : State) : (tellStrike g s).arb = s.arb := by
  unfold tellStrike; split <;> rfl
@[simp] theorem tellStrike_wheels (g : Nat) (s : State) : (tellStrike g s).wheels = s.wheels := by
  unfold tellStrike; split <;> rfl
@[simp] theorem tellStrike_seq (g : Nat) (s : State) : (tellStrike g s).seq = s.seq := by
  unfold tellStrike; split <;> rfl
@[simp] theorem tellStrike_mem (g : Nat) (s : State) : (tellStrike g s).mem = s.mem := by
  unfold tellStrike; split <;> rfl
@[simp] theorem tellStrike_spell (g : Nat) (s : State) : (tellStrike g s).spell = s.spell := by
  unfold tellStrike; split <;> rfl
@[simp] theorem tellStrike_disp (g : Nat) (s : State) : (tellStrike g s).disp = s.disp := by
  unfold tellStrike; split <;> rfl
@[simp] theorem tellStrike_pending (g : Nat) (s : State) : (tellStrike g s).pending = s.pending := by
  unfold tellStrike; split <;> rfl

@[simp] theorem tellLift_con (g : Nat) (s : State) : (tellLift g s).con = s.con := by
  unfold tellLift; split <;> (try split) <;> simp
@[simp] theorem tellLift_ifl (g : Nat) (s : State) : (tellLift g s).ifl = s.ifl := by
  unfold tellLift; split <;> (try split) <;> simp
@[simp] theorem tellLift_dlink (g : Nat) (s : State) : (tellLift g s).dlink = s.dlink := by
  unfold tellLift; split <;> (try split) <;> simp
@[simp] theorem tellLift_arb (g : Nat) (s : State) : (tellLift g s).arb = s.arb := by
  unfold tellLift; split <;> (try split) <;> simp
@[simp] theorem tellLift_wheels (g : Nat) (s : State) : (tellLift g s).wheels = s.wheels := by
  unfold tellLift; split <;> (try split) <;> simp
@[simp] theorem tellLift_seq (g : Nat) (s : State) : (tellLift g s).seq = s.seq := by
  unfold tellLift; split <;> (try split) <;> simp
@[simp] theorem tellLift_mem (g : Nat) (s : State) : (tellLift g s).mem = s.mem := by
  unfold tellLift; split <;> (try split) <;> simp
@[simp] theorem tellLift_disp (g : Nat) (s : State) : (tellLift g s).disp = s.disp := by
  unfold tellLift; split <;> (try split) <;> simp
@[simp] theorem tellLift_pending (g : Nat) (s : State) : (tellLift g s).pending = s.pending := by
  unfold tellLift; split <;> (try split) <;> simp

@[simp] theorem useEntryGroup_con (e : Entry) (s : State) : (useEntryGroup e s).con = s.con := by
  unfold useEntryGroup; cases e.group <;> rfl
@[simp] theorem useEntryGroup_ifl (e : Entry) (s : State) : (useEntryGroup e s).ifl = s.ifl := by
  unfold useEntryGroup; cases e.group <;> rfl
@[simp] theorem useEntryGroup_dlink (e : Entry) (s : State) : (useEntryGroup e s).dlink = s.dlink := by
  unfold useEntryGroup; cases e.group <;> rfl
@[simp] theorem useEntryGroup_arb (e : Entry) (s : State) : (useEntryGroup e s).arb = s.arb := by
  unfold useEntryGroup; cases e.group <;> rfl
@[simp] theorem useEntryGroup_wheels (e : Entry) (s : State) : (useEntryGroup e s).wheels = s.wheels := by
  unfold useEntryGroup; cases e.group <;> rfl
@[simp] theorem useEntryGroup_seq (e : Entry) (s : State) : (useEntryGroup e s).seq = s.seq := by
  unfold useEntryGroup; cases e.group <;> rfl
@[simp] theorem useEntryGroup_mem (e : Entry) (s : State) : (useEntryGroup e s).mem = s.mem := by
  unfold useEntryGroup; cases e.group <;> rfl
@[simp] theorem useEntryGroup_spell (e : Entry) (s : State) : (useEntryGroup e s).spell = s.spell := by
  unfold useEntryGroup; cases e.group <;> rfl
@[simp] theorem useEntryGroup_disp (e : Entry) (s : State) : (useEntryGroup e s).disp = s.disp := by
  unfold useEntryGroup; cases e.group <;> rfl
@[simp] theorem useEntryGroup_pending (e : Entry) (s : State) : (useEntryGroup e s).pending = s.pending := by
  unfold useEntryGroup; cases e.group <;> rfl

@[simp] theorem takeEntry_con (p : Port) (e : Entry) (s : State) : (takeEntry p e s).con = s.con := by
  unfold takeEntry; simp
@[simp] theorem takeEntry_ifl (p : Port) (e : Entry) (s : State) : (takeEntry p e s).ifl = s.ifl := by
  unfold takeEntry; simp
@[simp] theorem takeEntry_dlink (p : Port) (e : Entry) (s : State) : (takeEntry p e s).dlink = s.dlink := by
  unfold takeEntry; simp
@[simp] theorem takeEntry_arb (p : Port) (e : Entry) (s : State) : (takeEntry p e s).arb = s.arb := by
  unfold takeEntry; simp
@[simp] theorem takeEntry_wheels (p : Port) (e : Entry) (s : State) : (takeEntry p e s).wheels = s.wheels := by
  unfold takeEntry; simp
@[simp] theorem takeEntry_seq (p : Port) (e : Entry) (s : State) : (takeEntry p e s).seq = s.seq := by
  unfold takeEntry; simp
@[simp] theorem takeEntry_mem (p : Port) (e : Entry) (s : State) : (takeEntry p e s).mem = s.mem := by
  unfold takeEntry; simp
@[simp] theorem takeEntry_disp (p : Port) (e : Entry) (s : State) : (takeEntry p e s).disp = s.disp := by
  unfold takeEntry; simp
@[simp] theorem takeEntry_pending (p : Port) (e : Entry) (s : State) : (takeEntry p e s).pending = s.pending := by
  unfold takeEntry; simp

@[simp] theorem reportLostUnderscore_dlink (p : Port) (g pos : Nat) (lost : Bool) (s : State) : (reportLostUnderscore p g pos lost s).dlink = s.dlink := by
  unfold reportLostUnderscore; split <;> (try split) <;> simp
@[simp] theorem reportLostUnderscore_arb (p : Port) (g pos : Nat) (lost : Bool) (s : State) : (reportLostUnderscore p g pos lost s).arb = s.arb := by
  unfold reportLostUnderscore; split <;> (try split) <;> simp
@[simp] theorem reportLostUnderscore_wheels (p : Port) (g pos : Nat) (lost : Bool) (s : State) : (reportLostUnderscore p g pos lost s).wheels = s.wheels := by
  unfold reportLostUnderscore; split <;> (try split) <;> simp
@[simp] theorem reportLostUnderscore_seq (p : Port) (g pos : Nat) (lost : Bool) (s : State) : (reportLostUnderscore p g pos lost s).seq = s.seq := by
  unfold reportLostUnderscore; split <;> (try split) <;> simp
@[simp] theorem reportLostUnderscore_mem (p : Port) (g pos : Nat) (lost : Bool) (s : State) : (reportLostUnderscore p g pos lost s).mem = s.mem := by
  unfold reportLostUnderscore; split <;> (try split) <;> simp
@[simp] theorem reportLostUnderscore_spell (p : Port) (g pos : Nat) (lost : Bool) (s : State) : (reportLostUnderscore p g pos lost s).spell = s.spell := by
  unfold reportLostUnderscore; split <;> (try split) <;> simp
@[simp] theorem reportLostUnderscore_disp (p : Port) (g pos : Nat) (lost : Bool) (s : State) : (reportLostUnderscore p g pos lost s).disp = s.disp := by
  unfold reportLostUnderscore; split <;> (try split) <;> simp
@[simp] theorem reportLostUnderscore_pending (p : Port) (g pos : Nat) (lost : Bool) (s : State) : (reportLostUnderscore p g pos lost s).pending = s.pending := by
  unfold reportLostUnderscore; split <;> (try split) <;> simp

/-! ## Takes -/

@[simp] theorem popHead_dlink (p : Port) (s : State) : (popHead p s).dlink = s.dlink := by cases p <;> rfl
@[simp] theorem popHead_comp (p : Port) (s : State) : (popHead p s).comp = s.comp := by cases p <;> rfl
@[simp] theorem popHead_wheels (p : Port) (s : State) : (popHead p s).wheels = s.wheels := by cases p <;> rfl
@[simp] theorem popHead_seq (p : Port) (s : State) : (popHead p s).seq = s.seq := by cases p <;> rfl
@[simp] theorem popHead_mem (p : Port) (s : State) : (popHead p s).mem = s.mem := by cases p <;> rfl
@[simp] theorem popHead_spell (p : Port) (s : State) : (popHead p s).spell = s.spell := by cases p <;> rfl
@[simp] theorem popHead_disp (p : Port) (s : State) : (popHead p s).disp = s.disp := by cases p <;> rfl
@[simp] theorem popHead_pending (p : Port) (s : State) : (popHead p s).pending = s.pending := by cases p <;> rfl

@[simp] theorem echoTake_dlink (p : Port) (it : QItem) (i : Bool) (s : State) : (echoTake p it i s).dlink = s.dlink := by
  unfold echoTake; split <;> (try split) <;> simp
@[simp] theorem echoTake_comp (p : Port) (it : QItem) (i : Bool) (s : State) : (echoTake p it i s).comp = s.comp := by
  unfold echoTake; split <;> (try split) <;> simp
@[simp] theorem echoTake_arb (p : Port) (it : QItem) (i : Bool) (s : State) : (echoTake p it i s).arb = s.arb := by
  unfold echoTake; split <;> (try split) <;> simp
@[simp] theorem echoTake_wheels (p : Port) (it : QItem) (i : Bool) (s : State) : (echoTake p it i s).wheels = s.wheels := by
  unfold echoTake; split <;> (try split) <;> simp
@[simp] theorem echoTake_seq (p : Port) (it : QItem) (i : Bool) (s : State) : (echoTake p it i s).seq = s.seq := by
  unfold echoTake; split <;> (try split) <;> simp
@[simp] theorem echoTake_mem (p : Port) (it : QItem) (i : Bool) (s : State) : (echoTake p it i s).mem = s.mem := by
  unfold echoTake; split <;> (try split) <;> simp
@[simp] theorem echoTake_spell (p : Port) (it : QItem) (i : Bool) (s : State) : (echoTake p it i s).spell = s.spell := by
  unfold echoTake; split <;> (try split) <;> simp
@[simp] theorem echoTake_disp (p : Port) (it : QItem) (i : Bool) (s : State) : (echoTake p it i s).disp = s.disp := by
  unfold echoTake; split <;> (try split) <;> simp
@[simp] theorem echoTake_pending (p : Port) (it : QItem) (i : Bool) (s : State) : (echoTake p it i s).pending = s.pending := by
  unfold echoTake; split <;> (try split) <;> simp

@[simp] theorem refuse_dlink (p : Port) (it : QItem) (r : Reason) (d : RefusalDetail) (s : State) : (refuse p it r d s).dlink = s.dlink := by
  unfold refuse; dsimp only; split <;> simp
@[simp] theorem refuse_arb (p : Port) (it : QItem) (r : Reason) (d : RefusalDetail) (s : State) : (refuse p it r d s).arb = s.arb := by
  unfold refuse; dsimp only; split <;> simp
@[simp] theorem refuse_wheels (p : Port) (it : QItem) (r : Reason) (d : RefusalDetail) (s : State) : (refuse p it r d s).wheels = s.wheels := by
  unfold refuse; dsimp only; split <;> simp
@[simp] theorem refuse_seq (p : Port) (it : QItem) (r : Reason) (d : RefusalDetail) (s : State) : (refuse p it r d s).seq = s.seq := by
  unfold refuse; dsimp only; split <;> simp
@[simp] theorem refuse_mem (p : Port) (it : QItem) (r : Reason) (d : RefusalDetail) (s : State) : (refuse p it r d s).mem = s.mem := by
  unfold refuse; dsimp only; split <;> simp
@[simp] theorem refuse_spell (p : Port) (it : QItem) (r : Reason) (d : RefusalDetail) (s : State) : (refuse p it r d s).spell = s.spell := by
  unfold refuse; dsimp only; split <;> simp
@[simp] theorem refuse_disp (p : Port) (it : QItem) (r : Reason) (d : RefusalDetail) (s : State) : (refuse p it r d s).disp = s.disp := by
  unfold refuse; dsimp only; split <;> simp
@[simp] theorem refuse_pending (p : Port) (it : QItem) (r : Reason) (d : RefusalDetail) (s : State) : (refuse p it r d s).pending = s.pending := by
  unfold refuse; dsimp only; split <;> simp

/-! ## The end of an event -/

@[simp] theorem rebuildAt_con (w : Nat) (s : State) : (rebuildAt w s).con = s.con := by
  unfold rebuildAt; dsimp only; split <;> rfl
@[simp] theorem rebuildAt_ifl (w : Nat) (s : State) : (rebuildAt w s).ifl = s.ifl := by
  unfold rebuildAt; dsimp only; split <;> rfl
@[simp] theorem rebuildAt_dlink (w : Nat) (s : State) : (rebuildAt w s).dlink = s.dlink := by
  unfold rebuildAt; dsimp only; split <;> rfl
@[simp] theorem rebuildAt_comp (w : Nat) (s : State) : (rebuildAt w s).comp = s.comp := by
  unfold rebuildAt; dsimp only; split <;> rfl
@[simp] theorem rebuildAt_arb (w : Nat) (s : State) : (rebuildAt w s).arb = s.arb := by
  unfold rebuildAt; dsimp only; split <;> rfl
@[simp] theorem rebuildAt_wheels (w : Nat) (s : State) : (rebuildAt w s).wheels = s.wheels := by
  unfold rebuildAt; dsimp only; split <;> rfl
@[simp] theorem rebuildAt_seq (w : Nat) (s : State) : (rebuildAt w s).seq = s.seq := by
  unfold rebuildAt; dsimp only; split <;> rfl
@[simp] theorem rebuildAt_mem (w : Nat) (s : State) : (rebuildAt w s).mem = s.mem := by
  unfold rebuildAt; dsimp only; split <;> rfl
@[simp] theorem rebuildAt_spell (w : Nat) (s : State) : (rebuildAt w s).spell = s.spell := by
  unfold rebuildAt; dsimp only; split <;> rfl
@[simp] theorem rebuildAt_pending (w : Nat) (s : State) : (rebuildAt w s).pending = s.pending := by
  unfold rebuildAt; dsimp only; split <;> rfl

@[simp] theorem rebuild_con (s : State) : (rebuild s).con = s.con := by
  unfold rebuild; simp
@[simp] theorem rebuild_ifl (s : State) : (rebuild s).ifl = s.ifl := by
  unfold rebuild; simp
@[simp] theorem rebuild_dlink (s : State) : (rebuild s).dlink = s.dlink := by
  unfold rebuild; simp
@[simp] theorem rebuild_comp (s : State) : (rebuild s).comp = s.comp := by
  unfold rebuild; simp
@[simp] theorem rebuild_arb (s : State) : (rebuild s).arb = s.arb := by
  unfold rebuild; simp
@[simp] theorem rebuild_wheels (s : State) : (rebuild s).wheels = s.wheels := by
  unfold rebuild; simp
@[simp] theorem rebuild_seq (s : State) : (rebuild s).seq = s.seq := by
  unfold rebuild; simp
@[simp] theorem rebuild_mem (s : State) : (rebuild s).mem = s.mem := by
  unfold rebuild; simp
@[simp] theorem rebuild_spell (s : State) : (rebuild s).spell = s.spell := by
  unfold rebuild; simp
@[simp] theorem rebuild_pending (s : State) : (rebuild s).pending = s.pending := by
  unfold rebuild; simp

@[simp] theorem finish_con (s t : State) : (finish s t).con = t.con := by
  unfold finish; simp
@[simp] theorem finish_ifl (s t : State) : (finish s t).ifl = t.ifl := by
  unfold finish; simp
@[simp] theorem finish_dlink (s t : State) : (finish s t).dlink = t.dlink := by
  unfold finish; simp
@[simp] theorem finish_comp (s t : State) : (finish s t).comp = t.comp := by
  unfold finish; simp
@[simp] theorem finish_wheels (s t : State) : (finish s t).wheels = t.wheels := by
  unfold finish; simp
@[simp] theorem finish_seq (s t : State) : (finish s t).seq = t.seq := by
  unfold finish; simp
@[simp] theorem finish_mem (s t : State) : (finish s t).mem = t.mem := by
  unfold finish; simp
@[simp] theorem finish_spell (s t : State) : (finish s t).spell = t.spell := by
  unfold finish; simp
@[simp] theorem finish_pending (s t : State) : (finish s t).pending = t.pending := by
  unfold finish; simp

end Sys2Proof.Machine
end

