-- ==== Sys2Proof/Laws/Events.lean ====
section
/-! SUPPORT. What an event leaves, said once for each shared operation: the end of an event, the grant decision, an arrival, a take, a
refusal, a wait, a console reply, a busy mechanism. -/

namespace Sys2Proof.Machine

/-! ## The end of an event -/

theorem timerRuns_iff (s : State) : timerRuns s = true ↔ s.TimerConditions := by
  simp [timerRuns, State.TimerConditions, and_assoc]

theorem timerRuns_false_iff (s : State) : timerRuns s = false ↔ ¬s.TimerConditions := by
  rw [← timerRuns_iff]; simp

theorem flushingReset_iff (s u : State) :
    flushingReset s u = true ↔ u.arb.flushPending = true ∧ s.ifl.inbound ≠ [] := by
  simp [flushingReset]

theorem buildImage_timerStep (w : Nat) (s u : State) : buildImage w (timerStep s u) = buildImage w u := rfl

theorem rebuildAt_same (w : Nat) (s : State) (h : buildImage w s = s.disp.image) : rebuildAt w s = s := if_pos h

theorem rebuildAt_new (w : Nat) (s : State) (h : buildImage w s ≠ s.disp.image) :
    rebuildAt w s =
      { s with disp := ⟨{ buildImage w s with generation := (s.disp.image.generation + 1) % 256 }, true⟩ } := if_neg h

theorem finish_same (s u : State) (h : buildImage u.disp.image.width u = u.disp.image) : finish s u = timerStep s u :=
  rebuildAt_same _ _ h

theorem finish_new (s u : State) (h : buildImage u.disp.image.width u ≠ u.disp.image) :
    finish s u = { timerStep s u with
      disp := ⟨{ buildImage u.disp.image.width u with generation := (u.disp.image.generation + 1) % 256 }, true⟩ } :=
  rebuildAt_new _ _ h

theorem finish_eq (s u : State) :
    finish s u = { u with arb := { u.arb with timer := timerAfter s u }, disp := (finish s u).disp } := by
  by_cases h : buildImage u.disp.image.width u = u.disp.image
  · rw [finish_same s u h]; rfl
  · rw [finish_new s u h]; rfl

/-- R159, R160, R176: what the end of an event adds to it. -/
theorem leaves_finish (s u : State) : Leaves s (finish s u) u := by
  refine ⟨?_, ⟨?_, ?_, ?_⟩, ?_⟩
  · conv_lhs => rw [finish_eq]
    rw [show (finish s u).arb = { u.arb with timer := timerAfter s u } by rw [finish_eq]]
  · intro h
    rw [finish_eq]
    simp [timerAfter, (timerRuns_false_iff u).2 h]
  · intro h h' hr
    rw [finish_eq]
    simp [timerAfter, (timerRuns_iff u).2 h, (timerRuns_false_iff s).2 h', mt (flushingReset_iff s u).1 hr]
  · intro h h'
    rw [finish_eq]
    have hu := (timerRuns_iff u).2 h
    rcases h' with h' | h'
    · simp [timerAfter, hu, (timerRuns_iff s).2 h']
    · simp [timerAfter, hu, (flushingReset_iff s u).2 h']
  · constructor
    · intro h; rw [finish_same s u h]; rfl
    · intro h; rw [finish_new s u h]

/-- An event that took s to u completes. -/
theorem leaves_done (s u : State) : ∃ t, done s u = .next t ∧ Leaves s t u := ⟨_, rfl, leaves_finish s u⟩

/-! ## The grant (R173) -/

theorem decideGrant_eq (s : State) : decideGrant s = s.granted := by
  unfold decideGrant State.granted
  split <;> rfl

@[simp] theorem granted_inbound (s : State) (p : Port) : s.granted.inbound p = s.inbound p := by cases p <;> rfl

theorem enqueue_eq (s : State) (p : Port) (it : QItem) : enqueue p it s = s.arrived p it := by
  cases p <;> simp only [enqueue, State.arrived, State.inbound, State.setInbound, decideGrant_eq]

/-! ## Takes (R26 to R28) -/

theorem popHead_eq (s : State) (p : Port) : popHead p s = s.headGone p := by cases p <;> rfl

theorem place_eq (s : State) (p : Port) (it : QItem) (es : List SEntry) :
    place (es ++ doneMarks p it) s = s.placed p it es := by
  simp only [place, doneMarks, State.placed, List.append_assoc]

theorem echoTake_none (p : Port) (it : QItem) (implied : Bool) (s : State) (h : echoOf it.cmd implied = none) :
    echoTake p it implied s = s := by
  unfold echoTake; rw [h]; simp

theorem echoTake_some (p : Port) (it : QItem) (implied : Bool) (s : State) (c : Byte) (a : Option Byte)
    (h : echoOf it.cmd implied = some (c, a)) : echoTake p it implied s = s.echoed p it c a := by
  unfold echoTake; rw [h]; rfl

theorem beginFrame_inbound_eq (l : InterfaceLink) : l.beginFrame.inbound = l.inbound := by
  unfold InterfaceLink.beginFrame; split <;> rfl

theorem granted_report (s : State) (tag : Byte) (b : Report) :
    (report s .interface tag b).granted = report s.granted .interface tag b := by
  have h : (report s .interface tag b).boundaryGrant = s.boundaryGrant := by
    simp only [State.boundaryGrant, report, queueRecord, beginFrame_inbound_eq]
  simp only [State.granted, h]
  rfl

theorem granted_echoed (s : State) (p : Port) (it : QItem) (c : Byte) (a : Option Byte) :
    (s.echoed p it c a).granted = s.granted.echoed p it c a := by
  simp only [State.echoed]
  have : s.granted.ifl = s.ifl := rfl
  rw [this]
  split
  · exact granted_report _ _ _
  · rfl

/-! ## A busy mechanism (R72) -/

theorem beginTest_engaged (s : State) (h : s.Engaged) : beginTest s = .nothing := by
  unfold beginTest
  rcases h with h | h | h <;> simp [h]

theorem settle_engaged (s : State) (h : s.Engaged) : settle false s = s := by
  unfold settle settleFuel
  show settleLoop (s.seq.queue.length + 8191 + 1) false s = s
  simp [settleLoop, beginTest_engaged s h]

theorem settleIfQueued_same (s u : State) (h : u.seq.queue = s.seq.queue) : settleIfQueued s u = u := by
  simp [settleIfQueued, h]

theorem settleIfQueued_engaged (s u : State) (h : u.Engaged) : settleIfQueued s u = u := by
  unfold settleIfQueued
  split
  · rfl
  · exact settle_engaged u h

/-! ## A take row -/

theorem takeRow_eq (mine : QCmd → Bool) (s : State) (p : Port) (it : QItem) (h : s.head = some (p, it))
    (hm : mine it.cmd = true) : takeRow mine s = finish s (settleIfQueued s (afterTry s p it (tryCmd s p it))) := by
  simp [takeRow, takeHead, tryHead, h, hm]

theorem takeRow_other (mine : QCmd → Bool) (s : State) (p : Port) (it : QItem) (h : s.head = some (p, it))
    (hm : mine it.cmd = false) : takeRow mine s = s := by simp [takeRow, h, hm]

theorem takeRow_none (mine : QCmd → Bool) (s : State) (h : s.head = none) : takeRow mine s = s := by
  simp [takeRow, h]

/-- R28: a refused head command. -/
theorem leaves_refuse (mine : QCmd → Bool) (s : State) (p : Port) (it : QItem) (r : Reason) (d : RefusalDetail)
    (h : s.head = some (p, it)) (hm : mine it.cmd = true) (ht : tryCmd s p it = .refuse s r d) :
    Leaves s (takeRow mine s) (s.refusedTake p it r d) := by
  rw [takeRow_eq mine s p it h hm, ht]
  have he : afterTry s p it (.refuse s r d) = s.refusedTake p it r d := by
    simp only [afterTry, refuse, popHead_eq, decideGrant_eq, State.refusedTake]
    cases p <;> rfl
  rw [he, settleIfQueued_same]
  · exact leaves_finish _ _
  · cases p <;> rfl

/-- R26: a head command that waits. -/
theorem leaves_wait (mine : QCmd → Bool) (s : State) (p : Port) (it : QItem)
    (h : s.head = some (p, it)) (hm : mine it.cmd = true) (ht : tryCmd s p it = .wait s) :
    Leaves s (takeRow mine s) s.waiting := by
  rw [takeRow_eq mine s p it h hm, ht]
  rw [settleIfQueued_same]
  · exact leaves_finish _ _
  · rfl

theorem engaged_seq (s u : State) (h : s.Engaged) (hf : u.seq.fault = s.seq.fault) (hm : u.seq.motion = s.seq.motion)
    (hi : u.seq.inflight = s.seq.inflight) : u.Engaged := by
  unfold State.Engaged Sequencer.homing Sequencer.moving at *
  rw [hf, hm, hi]; exact h

theorem taken_seq (u : State) (p : Port) (it : QItem) (es : List SEntry) :
    (u.taken p it es).seq = (u.placed p it es).seq := by cases p <;> rfl

/-- R26, R27, R173, R180: a head command taken with the entries it places; u is what its own rule has made of the rest. -/
theorem leaves_take (mine : QCmd → Bool) (s u : State) (p : Port) (it : QItem) (es : List SEntry)
    (h : s.head = some (p, it)) (hm : mine it.cmd = true) (hs : u.seq = s.seq) (hr : s.Room it es.length)
    (ht : tryCmd s p it = takePlacing s p it es u) :
    Leaves s (takeRow mine s)
      (match echoOf it.cmd (impliesReturn s p) with
        | some (c, a) => (u.taken p it es).echoed p it c a
        | none => u.taken p it es) := by
  rw [takeRow_eq mine s p it h hm, ht]
  have hroom : ¬ (freePlaces s < (es ++ doneMarks p it).length) := by
    have := hr.1
    simp only [freePlaces, doneMarks, List.length_append, Config.strikePlaces]
    split <;> simp_all <;> omega
  simp only [takePlacing, if_neg hroom, place_eq, afterTry, decideGrant_eq, popHead_eq]
  have hbusy : ∀ v : State, v.seq = (u.placed p it es).seq → settleIfQueued s v = v := by
    intro v hv
    by_cases hb : es.length ≠ 0 ∨ it.notify = true
    · apply settleIfQueued_engaged
      have := hr.2 hb
      refine engaged_seq s v this ?_ ?_ ?_ <;> rw [hv] <;> simp [State.placed, hs]
    · apply settleIfQueued_same
      simp only [not_or, not_not, Bool.not_eq_true] at hb
      rw [hv]
      simp [State.placed, hb.2, List.length_eq_zero_iff.1 hb.1, hs]
  cases he : echoOf it.cmd (impliesReturn s p) with
  | none =>
    rw [echoTake_none _ _ _ _ he, hbusy]
    · exact leaves_finish _ _
    · cases p <;> rfl
  | some ca =>
    obtain ⟨c, a⟩ := ca
    rw [echoTake_some _ _ _ _ _ _ he, granted_echoed, hbusy]
    · exact leaves_finish _ _
    · unfold State.echoed
      split <;> cases p <;> rfl

/-- R26: a head command that waits for places. -/
theorem leaves_wait_places (mine : QCmd → Bool) (s u : State) (p : Port) (it : QItem) (es : List SEntry)
    (h : s.head = some (p, it)) (hm : mine it.cmd = true)
    (hr : 64 < s.seq.queue.length + es.length + (if it.notify = true then 1 else 0))
    (hq : s.seq.queue.length ≤ 64)
    (ht : tryCmd s p it = takePlacing s p it es u) : Leaves s (takeRow mine s) s.waiting := by
  apply leaves_wait mine s p it h hm
  rw [ht]
  have hroom : freePlaces s < (es ++ doneMarks p it).length := by
    simp only [freePlaces, doneMarks, List.length_append, Config.strikePlaces]
    split <;> simp_all <;> omega
  simp only [takePlacing, if_pos hroom]

/-! ## Console replies (R184, R185) -/

theorem openTxn_con (s : State) : (openTxn s).con = s.con.endTxn := rfl

/-- R184, R185: an immediate command arriving in a console frame, with its answer and what it makes of the rest. -/
theorem consoleFrame_eq (code tag : Byte) (notify : Bool) (params : List Byte) (s u : State) (a : Answer)
    (h : frameArrives code tag notify params (openTxn s) = (a, u)) :
    consoleFrame code tag notify params s = reply a u := by
  simp [consoleFrame, h]

/-! ## The end of a takeover and of a pending flush (R177, R178, R182) -/

theorem endTakeover_eq (s u : State) :
    endTakeover s u = report { u with arb := { u.arb with takeover := false } } .interface 0
      (.grantTaken ((s.comp.line.map ComposeLine.vpos).getD 0) s.comp.mode) := rfl

@[simp] theorem endTakeover_comp (s u : State) : (endTakeover s u).comp = u.comp := by simp [endTakeover_eq]
@[simp] theorem endTakeover_seq (s u : State) : (endTakeover s u).seq = u.seq := by simp [endTakeover_eq]
@[simp] theorem endTakeover_mem (s u : State) : (endTakeover s u).mem = u.mem := by simp [endTakeover_eq]
@[simp] theorem endTakeover_con (s u : State) : (endTakeover s u).con = u.con := rfl
@[simp] theorem endTakeover_arb (s u : State) : (endTakeover s u).arb = { u.arb with takeover := false } := by
  simp [endTakeover_eq]

/-- A flush that is not pending, or has no room, changes nothing. -/
theorem tryFlush_waits (s : State) (h : s.arb.flushPending = false ∨ freePlaces s < 2) : tryFlush s = s := by
  unfold tryFlush
  rcases h with h | h
  · simp [h]
  · have : ¬2 ≤ freePlaces s := by omega
    simp [this]

end Sys2Proof.Machine
end

