-- ==== Sys2Proof/Laws/Lines.lean ====
section
/-! SUPPORT. The closing of a line and the RETURN of DIRECT mode, in the words of Safety.lean; the interface reset's parts. -/

namespace Sys2Proof.Machine

theorem completeLast_eq (s : State) : completeLast s = { s with spell := (completeLast s).spell } := by
  unfold completeLast
  split
  · split <;> rfl
  · rfl

theorem endWords_eq (s : State) : endWords s = { s with spell := (endWords s).spell } := by
  unfold endWords
  dsimp only
  rw [completeLast_eq s]

theorem closeLine_eq (counted : Bool) (s : State) : closeLine counted s = s.lineClosed counted := by
  unfold closeLine State.lineClosed
  cases h : s.comp.line with
  | none => rfl
  | some l =>
    dsimp only
    rw [endWords_eq s]
    rfl

theorem returnLm_eq (s : State) : returnLm s = s.marginAfter := by
  unfold returnLm State.marginAfter
  cases h : s.comp.line <;> simp

theorem spacedVpos_eq (s : State) : spacedVpos s = s.vposAfter := rfl

theorem returnEntries_eq (s : State) : returnEntries s = s.returnStrikes := by
  simp only [returnEntries, State.returnStrikes, returnLm_eq, spacedVpos_eq]

theorem returnMove_eq (s : State) : returnMove s = s.returned := by
  simp only [returnMove, State.returned, returnLm_eq, spacedVpos_eq, closeLine_eq]

theorem place_queued (es : List SEntry) (s : State) : place es s = s.queued es := rfl

theorem directFlush_eq (s : State) : directFlush s = s.returned.queued s.returnStrikes := by
  simp only [directFlush, returnMove_eq, returnEntries_eq, place_queued]

theorem lineClosed_seq (s : State) (c : Bool) : (s.lineClosed c).seq = s.seq := by
  unfold State.lineClosed; split <;> rfl

theorem lineClosed_arb (s : State) (c : Bool) : (s.lineClosed c).arb = s.arb := by
  unfold State.lineClosed; split <;> rfl

theorem lineClosed_con (s : State) (c : Bool) : (s.lineClosed c).con = s.con := by
  unfold State.lineClosed; split <;> rfl

theorem lineClosed_ifl (s : State) (c : Bool) : (s.lineClosed c).ifl = s.ifl := by
  unfold State.lineClosed; split <;> rfl

theorem lineClosed_line (s : State) (c : Bool) : (s.lineClosed c).comp.line = none := by
  unfold State.lineClosed; split
  · assumption
  · rfl

theorem lineClosed_correction (s : State) (c : Bool) : (s.lineClosed c).comp.correction = s.comp.correction := by
  unfold State.lineClosed; split <;> rfl

theorem resetInterfaceLink_eq (s : State) : resetInterfaceLink s = s.interfaceCleared := rfl

theorem resetGrant_eq (s : State) : resetGrant s = s.regranted := by
  simp only [resetGrant, State.regranted, decideGrant_eq]

end Sys2Proof.Machine
end

