-- ==== Sys2Proof/WellFormed.lean ====
section
/-! DEFINITION. When a command is one its row can stand for. exec is total and gives every command a meaning; these checks say
which operands the links can in fact carry. -/

namespace Sys2Proof

/-- The catalogue codes of the immediate commands (10_console_and_interface_links, the catalogue): each has a row of its own. -/
def immediateCodes : List Byte :=
  [0x71, 0x65, 0x66, 0x70, 0x74, 0x73, 0x78, 0x63, 0x6E, 0x6B, 0x61, 0x75, 0x76, 0x6C, 0x64, 0x6D, 0x77, 0x79, 0x68, 0x6F,
    0x7A]

/-- The codes that two rows share, told apart by a first parameter of 0 or 1: ACCEPT, USER WORD, REJECT WORD, REMOTE HOLD. -/
def sharedCodes : List Byte := [0x61, 0x75, 0x76, 0x79]

/-- Does an immediate command's own row stand for the frame? Of a shared code, only with a first parameter of 0 or 1. -/
def ConsoleFrame.hasOwnRow (f : ConsoleFrame) : Bool :=
  immediateCodes.contains f.code && (!(sharedCodes.contains f.code) || f.params.head? == some 0 || f.params.head? == some 1)

/-- R184: byte 3 of a frame counts its parameters in one byte. QUEUED COMMAND ARRIVAL is the arrival of a frame that no other row
stands for: of a queued command's code, of no command's code, or of a shared code without a selecting parameter (BAD PARAMETER). -/
def ConsoleFrame.wellFormed (f : ConsoleFrame) : Bool := decide (f.params.length ≤ 255) && !f.hasOwnRow

/-- R184, R191: at most 255 parameters in a console frame; on the interface, what one length byte can call for (WHEEL MAP:
3 + 2 × 255). taken is the count of parameters the row itself stands for (1 where it selects between two commands). -/
def Arrival.wellFormed (a : Arrival) (taken : Nat) : Bool :=
  match a.port with
  | .console => decide (a.params.length + taken ≤ 255)
  | .interface => decide (a.params.length + taken ≤ 513)

/-- R162 to R166: the first-byte codes of the display link are commands of their own; CONTINUE FETCH carries none of the three,
and DISPLAY NO COMMAND is a byte that is not a fetch code (STOP has its own row but R166 answers it the same way). -/
def Instr.wellFormed : Instr → Bool
  | .queuedCommandArrival f => f.wellFormed
  | .continueFetch b => b != 0xA1 && b != 0xA2 && b != 0xA3
  | .displayNoCommand b => b != 0xA1 && b != 0xA2
  | .accept a | .acceptAndLearn a | .userWordAdd a | .userWordRemove a | .rejectWordAdd a | .rejectWordRemove a
  | .remoteHold a | .release a => a.wellFormed 1
  | .wordCheck a | .echo a | .linkFormat a | .peek a | .takeReport a | .status a | .resume a | .clearFault a | .continueCmd a
  | .cancelPending a | .listClear a | .wheelDefine a | .wheelMap a | .displayWidth a | .holdTime a | .attnLevel a
  | .resetEngine a => a.wellFormed 0
  | _ => true

end Sys2Proof
end

