-- ==== Sys2Proof/Tests/Slice0.lean ====
section
/-! SUPPORT. Tests: the ill-formed commands that WellFormed refuses; one-step tests whose expected values are the spec's own worked
examples and tables; and, for every statement with hypotheses, a state and operands that meet them, clause by clause. -/

namespace Sys2Proof.Tests

open Sys2Proof Sys2Proof.Machine

/-! ## WellFormed -/

/-- R184: 255 parameters are the most a frame's count byte can carry. -/
theorem test_frame_too_long : (Instr.queuedCommandArrival ⟨0x41, 0, 0, List.replicate 256 0⟩).wellFormed = false := by decide +kernel

/-- The catalogue: STATUS is an immediate command, which has a row of its own. -/
theorem test_frame_of_an_immediate_command : (Instr.queuedCommandArrival ⟨0x73, 0, 0, []⟩).wellFormed = false := by decide

theorem test_frame_accepted : (Instr.queuedCommandArrival ⟨0x41, 0, 0, List.replicate 255 0⟩).wellFormed = true := by decide +kernel

/-- R162: 0xA1 is WINDOW FETCH; R164: 0xA3 is STOP; neither continues a fetch. -/
theorem test_continue_with_a_code :
    (Instr.continueFetch 0xA1).wellFormed = false ∧ (Instr.continueFetch 0xA3).wellFormed = false ∧
      (Instr.continueFetch 0xFF).wellFormed = true := by decide

/-- R165: 0xA2 is STATUS FETCH, a command. -/
theorem test_no_command_with_a_code :
    (Instr.displayNoCommand 0xA2).wellFormed = false ∧ (Instr.displayNoCommand 0x00).wellFormed = true := by decide

/-- R184: 256 parameters do not fit a console frame, nor 255 behind one that the row stands for. -/
theorem test_arrival_too_long :
    (Instr.wheelMap ⟨.console, 0, List.replicate 256 0⟩).wellFormed = false ∧
      (Instr.accept ⟨.console, 0, List.replicate 255 0⟩).wellFormed = false ∧
      (Instr.wheelMap ⟨.console, 0, List.replicate 255 0⟩).wellFormed = true := by decide +kernel

/-- R191: no length byte calls for more than 513 parameters on the interface. -/
theorem test_sequence_too_long :
    (Instr.wheelMap ⟨.interface, 0, List.replicate 514 0⟩).wellFormed = false ∧
      (Instr.wheelMap ⟨.interface, 0, List.replicate 513 0⟩).wellFormed = true := by decide +kernel

/-- 'a' without a first parameter of 0 or 1 is BAD PARAMETER, and is no row's; with 0 it is ACCEPT's row. -/
theorem test_frame_of_a_shared_code :
    (Instr.queuedCommandArrival ⟨0x61, 0, 0, [5]⟩).wellFormed = true ∧ (Instr.queuedCommandArrival ⟨0x61, 0, 0, []⟩).wellFormed = true ∧
      (Instr.queuedCommandArrival ⟨0x61, 0, 0, [0]⟩).wellFormed = false := by decide

/-! ## States to test on -/

/-- A petal map with these codes, width classes and impression classes. -/
def petalsOf (l : List (Nat × Byte × Nat × Nat)) : List PetalRec :=
  l.foldl (fun ps p => ps.set p.1 ⟨some p.2.1, p.2.2.1, p.2.2.2⟩) (List.replicate 100 ⟨none, 3, 2⟩)

/-- The proportional wheel of 01's worked example. -/
def psWheel : Descriptor :=
  ⟨17, .ps, petalsOf [(5, 0x2E, 1, 1), (12, 0x61, 3, 2), (40, 0x6D, 5, 3), (71, 0x5F, 4, 1)]⟩

/-- A P12 wheel with a few letters and the underscore. -/
def p12Wheel : Descriptor :=
  ⟨17, .p12, petalsOf [(1, 0x61, 3, 2), (2, 0x65, 3, 2), (3, 0x68, 3, 2), (4, 0x74, 3, 2), (5, 0x6D, 3, 3), (9, 0x5F, 3, 2)]⟩

/-- An idle engine with wheel 17 mounted and this descriptor in slot 2. -/
def idle (d : Descriptor) : State :=
  { State.reset with
    wheels := State.reset.wheels.set 2 (some d)
    seq := { State.reset.seq with motion := .rest, holds := Holds.none, mounted := 17 }
    con := { State.reset.con with reports := ReportQueue.empty } }

/-- With the mechanism moving to 1000. -/
def busy (d : Descriptor) : State :=
  { idle d with seq := { (idle d).seq with
      inflight := some ⟨.move 1000, false, .carriage, 0, 0, 0, false, false⟩, motion := .carriage } }

/-- With n MOVE entries waiting. -/
def filled (n : Nat) (s : State) : State := { s with seq := { s.seq with queue := List.replicate n (.move 900) } }

/-- The item of a command, with tag 7 and the notify flag. -/
def item (c : QCmd) : QItem := ⟨c, 7, true⟩

/-- With a command at the head of a port's queue, and that port granted. -/
def headed (p : Port) (c : QCmd) (s : State) : State :=
  { s.setInbound p [item c] with arb := { s.arb with grant := some p } }

/-- With the composer changed. -/
def comp (f : Composer → Composer) (s : State) : State := { s with comp := f s.comp }

/-- With a line open. -/
def lined (p : Port) (es : List Entry) (s : State) : State :=
  comp (fun c => { c with line := some ⟨p, c.vpos, 120, false, es, false⟩ }) { s with arb := { s.arb with grant := some p } }

/-- A CHAR entry. -/
def charEntry (c : Byte) (pos : Nat) (g : Nat) (st : PrintState) : Entry :=
  ⟨.char, c, pos, 10, false, false, some g, st, false⟩

/-- A plain SPACE entry. -/
def spaceEntry (pos : Nat) : Entry := ⟨.space, 0x20, pos, 10, false, false, none, .held, false⟩

/-- Does the command answer a next state with this property? -/
def gives (c : Instr) (s : State) (f : State → Bool) : Bool :=
  match exec c s with
  | .next t => f t
  | _ => false

/-- A console arrival with these parameters. -/
def fromConsole (ps : List Byte) : Arrival := ⟨.console, 3, ps⟩

/-- An interface arrival with these parameters. -/
def fromHost (ps : List Byte) : Arrival := ⟨.interface, 3, ps⟩

/-! ## Worked examples of 01 (wheels, escapement, groups, rotations) -/

theorem test_escapements :
    ([0x2E, 0x61, 0x6D, 0x5F, 0x20, 0x51] : List Byte).map (escapement (some psWheel)) = [6, 10, 14, 12, 8, 8] := by decide

theorem test_escapement_without_descriptor : escapement none 0x61 = 10 ∧ escapement none 0x20 = 10 := by decide

/-- R17: 14 units over 12: at 500 and 502; 25 units over 12: at p, p + 12 and p + 13. -/
theorem test_underscores :
    underscorePositions 500 14 12 = [500, 502] ∧ underscorePositions 514 6 12 = [514] ∧
      underscorePositions 300 25 12 = [300, 312, 313] := by decide

theorem test_rotations :
    [(12, 40), (40, 71), (71, 71), (71, 5), (5, 71), (95, 3), (5, 60), (10, 60)].map (fun p => crossesIndex p.1 p.2)
      = [false, false, false, true, true, true, true, false] := by decide

/-- R14, R15: HEAVY makes classes 3 and 1 strike at 4 and 2; a lift is one class above. -/
theorem test_impressions :
    printImpression .heavy 3 = 4 ∧ printImpression .heavy 1 = 2 ∧ printImpression .light 1 = 1 ∧ liftImpression 3 = 4 ∧
      liftImpression 4 = 4 := by decide

/-- The bold underlined 'm' at 500: BASE, BOLD SECOND, two UNDERSCOREs; the print point at 514. -/
theorem test_bold_underlined_char :
    gives .char
      (headed .console (.char 0x6D)
        (comp (fun c => { c with printPoint := 500, consoleBold := true, consoleUnderline := true }) (busy psWheel)))
      (fun t => t.comp.printPoint == 514 && t.seq.queue ==
        [.print ⟨0x6D, .base, 500, 0, 1, .ps, .console⟩, .print ⟨0x6D, .boldSecond, 501, 0, 1, .ps, .console⟩,
          .print ⟨0x5F, .underscore, 500, 0, 1, .ps, .console⟩, .print ⟨0x5F, .underscore, 502, 0, 1, .ps, .console⟩,
          .mark .console 7 .done]) = true := by decide

/-- Step 3 of 'changing the mounted wheel's descriptor': WHEEL DEFINE slot 6, code 17 is redirected to the mounted slot: BUSY. -/
theorem test_wheel_define_busy :
    gives (.wheelDefine (fromConsole [6, 17, 0]))
      { busy p12Wheel with seq := { (busy p12Wheel).seq with queue := [.print ⟨0x61, .base, 9, 0, 1, .p12, .console⟩] } }
      (fun t => t.con.reply == [2, 1, 4] && t.wheels == (busy p12Wheel).wheels) = true := by decide

/-- Step 5: code 30 into slot 2, with nothing to strike: WHEEL UNDEFINED joins. -/
theorem test_wheel_define_undefines :
    gives (.wheelDefine (fromConsole [2, 30, 0])) (idle p12Wheel)
      (fun t => t.con.reply == [0, 1, 2] && t.seq.holds.wheelUndefined) = true := by decide

/-- R8: the mounted code gains a PS descriptor while a P12 PRINT waits: PITCH CHANGED joins, and both MECH reports carry BLOCKED. -/
theorem test_wheel_define_changes_pitch :
    gives (.wheelDefine (fromConsole [2, 17, 3]))
      { idle p12Wheel with
        wheels := List.replicate 8 none
        seq := { (idle p12Wheel).seq with
          holds := { Holds.none with wheelUndefined := true }, queue := [.print ⟨0x61, .base, 9, 0, 1, .p12, .console⟩] } }
      (fun t => t.con.reports.records ==
        [⟨.mech (.left .wheelUndefined) Holds.none .blocked, 0, false⟩,
          ⟨.mech (.joined .pitchChanged) { Holds.none with pitchChanged := true } .blocked, 0, true⟩]) = true := by decide

/-- R7: a code mapped anew leaves its old petal. -/
theorem test_wheel_map_moves_a_code :
    gives (.wheelMap (fromConsole [2, 50, 1, 0x61, 0x13])) (idle p12Wheel)
      (fun t => (t.descriptor.bind fun d => d.petalOf 0x61) == some 50) = true := by decide

/-! ## Worked examples of 02 (the composer) -/

/-- Step 11: RETURN places MOVE 120 and FEED +2 to 62. -/
theorem test_return :
    gives .ret
      (headed .console (.ret 0)
        (lined .console [] (comp (fun c => { c with vpos := 60, printPoint := 400 }) (busy p12Wheel))))
      (fun t => t.seq.queue == [.move 120, .feed 2 62, .mark .console 7 .done] && t.comp.printPoint == 120 &&
        t.comp.vpos == 62 && t.comp.line == none && t.comp.lineCounter == 1) = true := by decide

/-- Step 10: TAB at 170 to the stop at 400: width 230, STRUCK, MOVE 400. -/
theorem test_tab :
    gives .tab
      (headed .console .tab (lined .console [] (comp (fun c => { c with tabs := [400], printPoint := 170 }) (busy p12Wheel))))
      (fun t => t.entries == [⟨.tab, 0x09, 170, 230, false, false, none, .struck, false⟩] &&
        t.seq.queue == [.move 400, .mark .console 7 .done]) = true := by decide

/-- 'The right margin', steps 2 and 3: 1010 + 10 is taken, 1020 + 10 is refused with MARGIN. -/
theorem test_margin :
    gives .char (headed .console (.char 0x61) (comp (fun c => { c with printPoint := 1010 }) (busy p12Wheel)))
        (fun t => t.comp.printPoint == 1020) = true ∧
      gives .char (headed .console (.char 0x61) (comp (fun c => { c with printPoint := 1020 }) (busy p12Wheel)))
        (fun t => t.con.reports.records == [⟨.refused .margin 0x41 .plain, 7, false⟩] &&
          t.comp.lastRefusal == some .margin && t.comp.printPoint == 1020) = true := by decide

/-- Step 6: with Z 30 a console SPACE at 1030 is an implied RETURN, and an interface SPACE is not. -/
theorem test_implied_return :
    gives .space
        (headed .console .space
          (lined .console [] (comp (fun c => { c with zone := 30, printPoint := 1030, marginRelease := true }) (busy p12Wheel))))
        (fun t => t.comp.printPoint == 120 && t.comp.marginRelease == false && t.comp.line == none) = true ∧
      gives .space
        (headed .interface .space
          (lined .interface [] (comp (fun c => { c with zone := 30, printPoint := 1030, marginRelease := true }) (busy p12Wheel))))
        (fun t => t.comp.printPoint == 1040) = true := by decide

/-- 'Waiting for room': four entries are needed; with three places free the CHAR waits, with four it is taken. -/
theorem test_waiting_for_room :
    gives .char
        (headed .console (.char 0x6D)
          (comp (fun c => { c with consoleBold := true, consoleUnderline := true }) (filled 61 (busy p12Wheel))))
        (fun t => t.arb.headWaiting && t.seq.queue.length == 61 && t.con.inbound.length == 1) = true ∧
      gives .char
        (headed .console (.char 0x6D)
          (comp (fun c => { c with consoleBold := true, consoleUnderline := true }) (filled 60 (busy p12Wheel))))
        (fun t => t.seq.queue.length == 64 && t.con.inbound.length == 0) = true := by decide

/-! ## Worked examples of 03 (release) -/

/-- "We met at ten" from 120 at 10 units each. -/
def weMet : List Entry :=
  [charEntry 0x57 120 1 .held, charEntry 0x65 130 2 .held, spaceEntry 140, charEntry 0x6D 150 3 .held, charEntry 0x65 160 4 .held,
    charEntry 0x74 170 5 .held, spaceEntry 180, charEntry 0x61 190 6 .held, charEntry 0x74 200 7 .held, spaceEntry 210,
    charEntry 0x74 220 8 .held, charEntry 0x65 230 9 .held, charEntry 0x6E 240 10 .held]

theorem test_justified_even :
    (justifiedEntries 6 300 120 weMet).map PrintEntry.pos
      = [120, 130, 140, 167, 177, 187, 197, 224, 234, 244, 270, 280, 290] := by decide

theorem test_justified_odd :
    (justifiedEntries 7 300 120 weMet).map PrintEntry.pos
      = [120, 130, 140, 166, 176, 186, 196, 223, 233, 243, 270, 280, 290] := by decide

/-- E is 50 and G is 3; Smax 16 makes the line loose, Smax 17 admits it. -/
theorem test_stretch_limit :
    spareUnits 300 weMet = 50 ∧ gapCount weMet = 3 ∧ admitJustified 16 120 300 weMet = .loose .stretch ∧
      admitJustified 17 120 300 weMet = .justified := by decide

/-- The three centred lines: shifts 160, 161 and 0. -/
theorem test_centring :
    centreShift 120 840 120 [⟨.char, 0x61, 120, 400, false, false, none, .held, false⟩] = 160 ∧
      centreShift 120 840 120 [⟨.char, 0x61, 120, 397, false, false, none, .held, false⟩] = 161 ∧
      centreShift 120 840 500 [⟨.char, 0x61, 500, 300, false, false, none, .held, false⟩] = 0 := by decide

/-- 'Feeding a line': at the release, with 60 entries queued, W, e, m and e are placed. -/
theorem test_release_feeds_what_fits :
    gives .ret
      (headed .console (.ret 0)
        (lined .console weMet
          (comp (fun c => { c with mode := .line, justify := true, rm := 300, lineCounter := 6, printPoint := 250, vpos := 300 })
            (filled 60 (busy p12Wheel)))))
      (fun t => (t.seq.queue.drop 60).map SEntry.target == [120, 130, 167, 177] && t.comp.lineCounter == 7 &&
        t.comp.vpos == 302 && (t.comp.printLine.map PrintLine.cursor) == some 5) = true := by decide

/-! ## Worked examples of 04 (the mechanism) -/

/-- 'A carriage that will not settle': the third failure is FAULT, with an urgent MECH report of the carriage and the MOVE. -/
theorem test_third_failure :
    gives .motionLimitExpiry
      { busy p12Wheel with seq := { (busy p12Wheel).seq with motion := .rehomeCarriage, attempts := 2 } }
      (fun t => t.seq.state == .fault && t.seq.attempts == 3 &&
        t.con.reports.records == [⟨.mech (.fault .carriage (some 3) none) Holds.none .fault, 0, true⟩]) = true := by decide

/-- The expiry of the re-homed move's first attempt re-homes it. -/
theorem test_first_failure :
    gives .motionLimitExpiry (busy p12Wheel)
      (fun t => t.seq.motion == .rehomeCarriage && t.seq.attempts == 1 && t.seq.carriage == 0) = true := by decide

/-- 'A wheel exchange': homing reads 22 with 'k' composed under P12 and wheel 22 PS: WHEEL CHANGED, then PITCH CHANGED joins. -/
theorem test_pitch_changed :
    gives (.indexPulse 22)
      { idle p12Wheel with
        wheels := (idle p12Wheel).wheels.set 5 (some ⟨22, .ps, petalsOf [(1, 0x6B, 3, 2)]⟩)
        seq := { (idle p12Wheel).seq with motion := .homeWheel, queue := [.print ⟨0x6B, .base, 310, 0, 81, .p12, .console⟩] } }
      (fun t => t.seq.state == .blocked && t.seq.holds.pitchChanged && t.seq.mounted == 22 &&
        (t.con.reports.records.map Record.body).take 1 == [.wheelChanged 17 22]) = true := by decide

/-- CANCEL PENDING there: two PRINT and two line entries removed; the print point at 310. -/
theorem test_cancel_pending :
    gives (.cancelPending (fromConsole []))
      (comp (fun c => { c with printPoint := 330 })
        (lined .console [charEntry 0x6F 300 80 .struck, charEntry 0x6B 310 81 .pending, charEntry 0x65 320 82 .pending]
          { idle p12Wheel with seq := { (idle p12Wheel).seq with
              holds := { Holds.none with pitchChanged := true }
              queue := [.print ⟨0x6B, .base, 310, 0, 81, .p12, .console⟩, .print ⟨0x65, .base, 320, 0, 82, .p12, .console⟩] } }))
      (fun t => t.con.reply == [0, 3, 2, 0, 2] && t.comp.printPoint == 310 && t.seq.state == .idle &&
        t.entries.length == 1) = true := by decide

/-! ## Worked examples of 05 (correction memory) -/

/-- A record. -/
def rec (ref g : Nat) (pos : Nat) (c : Byte) : StrikeRec := ⟨ref, g, .base, pos, 1, 17, c, 2⟩

/-- A slot of n records. -/
def slot (v n : Nat) : LineSlot := ⟨v, false, List.replicate n (rec 1 1 120 0x61)⟩

/-- 'Slots made, dropped and truncated': 512 records, a strike at 106 drops slot 100. -/
theorem test_oldest_slot_dropped :
    (fileRecord 106 (rec 9 9 0 0) [slot 100 130, slot 102 140, slot 104 120, slot 106 122]).map
      (fun sl => (sl.vpos, sl.records.length)) = [(102, 140), (104, 120), (106, 123)] := by decide +kernel

/-- One slot of 512 records is truncated. -/
theorem test_truncation :
    (fileRecord 400 (rec 9 9 0 0) [slot 400 512]).map (fun sl => (sl.records.length, sl.truncated, sl.records.getLast?))
      = [(512, true, some (rec 9 9 0 0))] := by decide +kernel

/-! ## Worked examples of 06 (corrections) -/

/-- '"teh" corrected': step 1: the queued 'h' is withdrawn and its entry is LIFTED; the print point at 290. -/
theorem test_correct_withdraws :
    gives .correct
      (headed .console .correct
        (comp (fun c => { c with printPoint := 300 })
          (lined .console [charEntry 0x74 270 61 .struck, charEntry 0x65 280 62 .pending, charEntry 0x68 290 63 .pending]
            { busy p12Wheel with seq := { (busy p12Wheel).seq with
                inflight := some ⟨.print ⟨0x65, .base, 280, 0, 62, .p12, .console⟩, false, .carriage, 2, 2, 17, false, false⟩
                queue := [.print ⟨0x68, .base, 290, 0, 63, .p12, .console⟩] } })))
      (fun t => t.seq.queue == [.mark .console 7 .done] && t.comp.printPoint == 290 && t.comp.correction == none &&
        t.entries.map Entry.state == [.struck, .pending, .lifted]) = true := by decide

/-- R117, R121: the BASE of 'h' was struck and its record cleared, its BOLD SECOND waits: the target is short, with one PARTIAL. With the
BASE still waiting as well, all of it is withdrawn, and there is no PARTIAL. -/
theorem test_cleared_base_is_short :
    let s (q : List Role) : State :=
      headed .console .correct
        (comp (fun c => { c with printPoint := 300 })
          (lined .console [charEntry 0x68 290 63 .pending]
            { busy p12Wheel with seq := { (busy p12Wheel).seq with
                queue := q.map fun r => .print ⟨0x68, r, 290, 0, 63, .p12, .console⟩ } }))
    gives .correct (s [.boldSecond]) (fun t => t.con.reports.records == [⟨.partialLift 0 0 1 290, 7, false⟩]) = true ∧
      gives .correct (s [.base, .boldSecond]) (fun t => t.con.reports.records == []) = true := by decide

/-- 'WORD CORRECT on a closed line': 'o', 'w' and 't' are lifted, in this order; the print point at 160. -/
theorem test_word_correct :
    gives .wordCorrect
      (headed .console .wordCorrect
        (comp (fun c => { c with printPoint := 190 })
          (lined .console [⟨.tab, 0x09, 120, 70, false, false, none, .struck, false⟩]
            { busy p12Wheel with mem := [⟨0, false,
                [rec 1 1 120 0x6F, rec 2 2 130 0x6E, rec 3 3 140 0x65, rec 4 4 160 0x74, rec 5 5 170 0x77, rec 6 6 180 0x6F]⟩] })))
      (fun t => (t.seq.queue.map SEntry.target).take 3 == [180, 170, 160] && t.seq.queue.length == 4 &&
        t.comp.printPoint == 160) = true := by decide

/-! ## Spelling, display, sharing, links (07 to 10) -/

/-- 'Words of one line': "Re-chek": two words; the hyphen completes the first. -/
theorem test_words :
    (wordsOf [charEntry 0x52 120 1 .held, charEntry 0x65 130 2 .held, charEntry 0x2D 140 3 .held, charEntry 0x63 150 4 .held,
        charEntry 0x68 160 5 .held]).map (fun w => (w.entries.map Entry.pos, w.ended))
      = [([120, 130], true), ([150, 160], false)] := by decide

/-- R134's own example: "cat" with '/' typed over its 'a' is a token. -/
theorem test_overstruck_word :
    (wordsOf [charEntry 0x63 120 1 .held, charEntry 0x61 130 2 .held, charEntry 0x2F 130 3 .held, charEntry 0x74 140 4 .held]).map
      (fun w => (w.entries.map Entry.pos, w.fresh.token)) = [([120, 130, 130, 140], true)] := by decide

/-- R133, R134: a '/' over an apostrophe is a separator as anywhere: "'cat" and "cat'" keep the plain word "cat". -/
theorem test_overstruck_apostrophe :
    (wordsOf [charEntry 0x27 120 1 .held, charEntry 0x2F 120 2 .held, charEntry 0x63 130 3 .held, charEntry 0x61 140 4 .held]).map
        (fun w => (w.entries.map Entry.pos, w.fresh.token)) = [([130, 140], false)] ∧
      (wordsOf [charEntry 0x63 120 1 .held, charEntry 0x61 130 2 .held, charEntry 0x27 140 3 .held, charEntry 0x2F 140 4 .held]).map
        (fun w => (w.entries.map Entry.pos, w.fresh.token)) = [([120, 130], false)] := by decide

/-- 07_spelling, worked example: the three indices of "cat". -/
theorem test_signature_indices : signatureIndices [0x63, 0x61, 0x74] = (32725, 96591, 114645) := by decide

/-- R141: a reject word is FLAGGED before the user list is read. -/
theorem test_decision :
    ({ State.reset.spell with userWords := [[0x61, 0x62]], rejectWords := [[0x61, 0x62]] } : Spelling).decision [0x61, 0x62]
      = (.flagged, .rejectList) := by decide

/-- 'The window moving', rules 1 and 2 of R156: 16 > 15 makes F 4; 20 > 19 makes it 8; 7 < 8 makes it 3; 0 < 3 makes it 0. -/
theorem test_window_first :
    [windowFirst 16 0 15, windowFirst 16 0 16, windowFirst 16 4 19, windowFirst 16 4 20, windowFirst 16 8 7, windowFirst 40 3 7,
      windowFirst 16 3 0] = [0, 4, 4, 8, 3, 3, 0] := by decide

/-- 'The cells of a corrected line': print point 210, RM 1020: column 18, 810 units to RM. -/
theorem test_status_record :
    (statusRecord (comp (fun c => { c with printPoint := 210 }) (idle p12Wheel)) 9).column = 18 ∧
      (statusRecord (comp (fun c => { c with printPoint := 210 }) (idle p12Wheel)) 9).unitsToRm = 810 := by decide

/-- 'A host line taken over': the takeover places MOVE 120 and the FEED, queues GRANT TAKEN and grants the console. -/
theorem test_takeover :
    gives .takeover
      { lined .interface [charEntry 0x68 120 1 .struck] (busy p12Wheel) with
        con := { (busy p12Wheel).con with inbound := [item (.char 0x61)] }
        arb := { (busy p12Wheel).arb with grant := some .interface, takeover := true } }
      (fun t => t.arb.grant == some .console && t.seq.queue == [.move 120, .feed 2 2] && t.comp.lineCounter == 1 &&
        t.ifl.reports.records == [⟨.grantTaken 0 .direct, 0, false⟩]) = true := by decide

/-- 'A break on an open LINE mode line': the line is discarded, LM 200 applies, the print point goes there. -/
theorem test_break_discards :
    gives .breakDetected
      (comp (fun c => { c with mode := .line, pendingLm := some 200, printPoint := 200, vpos := 500 })
        (lined .interface [charEntry 0x34 180 1 .held] (busy p12Wheel)))
      (fun t => t.comp.line == none && t.comp.lm == 200 && t.comp.printPoint == 200 && t.comp.vpos == 500 &&
        t.comp.lineCounter == 0 && t.arb.grant == none &&
        t.con.reports.records == [⟨.interfaceReset .brk .discarded, 0, false⟩]) = true := by decide

/-- 'The LOST marker': from 30 records, the eight events. -/
theorem test_lost_marker :
    let r (u : Bool) : Record := ⟨.done, 1, u⟩
    let q := [r false, r false, r true, r false].foldl ReportQueue.add ⟨List.replicate 30 (r false), false, 0, false⟩
    let q2 := ({ q with records := q.records.drop 1 }).add (r false)
    q.loss = true ∧ q.lost = 2 ∧ q.urgentLost = true ∧ q2.loss = false ∧ q2.records.length = 32 ∧
      q2.records.getLast? = some ⟨.lost 3, 0, true⟩ := by decide

/-- R186: after an overrun every byte is 0xFF. -/
theorem test_overrun_bytes :
    gives .consoleOverrun { idle p12Wheel with con := { (idle p12Wheel).con with txn := .replying false, reply := [0, 0] } }
      (fun t => (List.range 6).map (t.con.byteAt 4) == List.replicate 6 0xFF) = true := by decide

/-- R160: the image changed after the select, so the record sent is not the current one. -/
theorem test_status_fetch_of_a_stale_record :
    gives .statusFetch
      { idle p12Wheel with
        disp := { (idle p12Wheel).disp with image := { (idle p12Wheel).disp.image with generation := 9 }, attn := true }
        dlink := ⟨none, some ⟨(idle p12Wheel).disp.image, .awaitCommand, 0, false⟩⟩ }
      (fun t => t.disp.attn) = true := by decide

/-- R164: W changes between WINDOW FETCH and its parameter byte: the continue flag does not turn the state on. -/
theorem test_width_changed_in_a_fetch :
    gives (.displayWidth (fromConsole [16]))
      { idle p12Wheel with dlink := ⟨none, some ⟨(idle p12Wheel).disp.image, .awaitParameter, 1, false⟩⟩ }
      (fun t => gives (.windowFetchParameter 0x9F) t (fun u => u.dlink.continuous == none)) = true := by decide

/-- R190: two LINK FORMATs come within one character, which is read in the format of its start bit: 0xE1 in 8 bits no parity, though 7
even (whose data would be 0x61) and then 8 odd are set meanwhile; the character after it is read in 8 odd, a parity error. -/
theorem test_formats_within_a_character :
    gives (.linkFormat (fromConsole [5, 3])) (idle p12Wheel) (fun t => gives (.linkFormat (fromConsole [5, 2])) t (fun u =>
      gives (.interfaceByte ⟨0xE1, false, true, 2⟩) u (fun v => v.ifl.inbound == [⟨.char 0xE1, 0, false⟩] && !v.ifl.parity) &&
        gives (.interfaceByte ⟨0xE1, false, true, 0⟩) u (fun v => v.ifl.parity && v.ifl.inbound == []))) = true := by decide

/-- R190: 0x4A goes as 0x34 0x3A in a 7-bit format, and reads back. -/
theorem test_split_byte :
    splitByte 0x4A = [0x34, 0x3A] ∧ readSplit .e7 none 0x34 = .half 4 ∧ readSplit .e7 (some 4) 0x3A = .whole 0x4A := by decide

/-- R191: ESC, code, tag and parameter make a queued BOLD arrive; the last byte of it. -/
theorem test_sequence_end :
    gives (.interfaceByte ⟨0x01, false, true, 0⟩)
      { idle p12Wheel with ifl := { (idle p12Wheel).ifl with assembly := .body true 0x47 [0x07] none } }
      (fun t => t.ifl.inbound == [⟨.bold 1, 7, true⟩] && t.ifl.assembly == .idle && t.arb.grant == some .interface) = true := by
  decide

/-- R186: STATUS after an overrun: the flag in the reply, and clear after it. -/
theorem test_status :
    gives (.status (fromConsole [])) { idle p12Wheel with con := { (idle p12Wheel).con with overrun := true } }
      (fun t => t.con.reply.take 3 == [4, 16, 2] && t.con.overrun == false) = true := by decide

/-- No row of the table has bits: a word spells no command, and the state is left as it is. -/
theorem test_no_word : decodeTableWord 8 0x41 = none ∧ State.reset.withFetchWord 8 0x41 = State.reset := by decide

/-! ## The hypotheses of the statements can be met

One theorem for each statement that has hypotheses, with a state and operands for each of its clauses, at the edges of their ranges. -/

/-- A state whose queues and lists are at their limits, its image current, with a command waiting. -/
def crowded : State :=
  { rebuild { filled 64 (busy p12Wheel) with
      con := { (busy p12Wheel).con with inbound := List.replicate 16 (item .space) }
      ifl := { (busy p12Wheel).ifl with inbound := List.replicate 48 (item .space) }
      arb := { (busy p12Wheel).arb with grant := some .console } } with
    pending := [.coverOpens] }

theorem witness_StepRunsFrontCommand :
    crowded.pending = Instr.coverOpens :: [] ∧ State.reset.pending = [] := by decide

theorem witness_QueuesStayBounded : crowded.QueuesBounded ∧ ∃ t, step crowded = .next t := by
  refine ⟨?_, _, rfl⟩
  unfold State.QueuesBounded
  decide

/-- With four slots and one of them full. -/
def recorded : State :=
  { crowded with mem := [slot 1 0, slot 2 0, slot 3 0, slot 4 512] }

theorem witness_MemoryStaysBounded : recorded.MemoryBounded ∧ ∃ t, step recorded = .next t := by
  refine ⟨?_, _, rfl⟩
  unfold State.MemoryBounded
  decide +kernel

/-- A line whose last entry ends at the travel's end, margins at their least distance, 32 stops. -/
def edged : State :=
  comp (fun c => { c with lm := 1680, rm := 1800, pendingLm := some 1680, printPoint := 1800, vpos := 1023,
                          tabs := (List.range 32).map fun i => i * 50 })
    (lined .console [charEntry 0x61 1790 1 .struck] crowded)

theorem witness_PositionsStayOnThePaper :
    edged.MarginsApart ∧ edged.OnThePaper ∧ edged.StopsInOrder ∧ ∃ t, step edged = .next t := by
  refine ⟨?_, ?_, ?_, _, rfl⟩
  · unfold State.MarginsApart; decide
  · unfold State.OnThePaper; decide
  · unfold State.StopsInOrder; decide

/-- Two wheels and two words, the settings and counters at their limits. -/
def settled : State :=
  { comp (fun c => { c with spacing := 6, zone := 240, smax := 60, groupCounter := 65535, lineCounter := 65535 }) crowded with
    wheels := (crowded.wheels.set 5 (some ⟨63, .p10, List.replicate 100 ⟨none, 3, 2⟩⟩))
    arb := { crowded.arb with holdTime := 60 }
    con := { crowded.con with attnLevel := 32 }
    spell := { crowded.spell with nextId := 255, userWords := [[0x61, 0x62]], rejectWords := [[0x61, 0x63]] } }

theorem witness_TablesAndSettingsStay :
    settled.WheelsDistinct ∧ settled.ListsDisjoint ∧ settled.SettingsInRange ∧ settled.CountersInRange ∧
      ∃ t, step settled = .next t := by
  refine ⟨⟨by decide, fun d h => ?_, by decide⟩, ?_, ?_, ?_, _, rfl⟩
  · have h' : d = ⟨63, .p10, List.replicate 100 ⟨none, 3, 2⟩⟩ ∨ d = p12Wheel := by
      have : some d ∈ settled.wheels.filter Option.isSome := List.mem_filter.2 ⟨h, rfl⟩
      rw [show settled.wheels.filter Option.isSome
        = [some p12Wheel, some ⟨63, .p10, List.replicate 100 ⟨none, 3, 2⟩⟩] from by decide +kernel] at this
      simpa [or_comm] using this
    rcases h' with rfl | rfl <;> decide
  · unfold State.ListsDisjoint; decide
  · unfold State.SettingsInRange; decide
  · unfold State.CountersInRange; decide

/-- The interface holds a line that the console waits for, with the timer running. -/
def heldLine : State :=
  { lined .interface [charEntry 0x61 120 1 .struck] (busy p12Wheel) with
    con := { (busy p12Wheel).con with inbound := [item .space] }
    arb := { (busy p12Wheel).arb with grant := some .interface, timer := some 10 }
    pending := [.lineHoldTimerExpiry] }

theorem witness_LineKeepsTheGrant : heldLine.LineHeld ∧ ∃ t, step heldLine = .next t := by
  refine ⟨?_, _, rfl⟩
  unfold State.LineHeld State.TimerConditions
  decide

theorem witness_DisplayStaysCurrent : crowded.DisplayCurrent ∧ crowded.CursorInView ∧ ∃ t, step crowded = .next t := by
  refine ⟨?_, ?_, _, rfl⟩
  · unfold State.DisplayCurrent; decide
  · unfold State.CursorInView; decide

theorem witness_MechanismStaysSound : crowded.MechanismSound ∧ ∃ t, step crowded = .next t := by
  refine ⟨?_, _, rfl⟩
  unfold State.MechanismSound
  decide

theorem witness_ReportJoinsOrIsLost :
    let q (n : Nat) (loss : Bool) : ReportQueue := ⟨List.replicate n ⟨.done, 0, false⟩, loss, 3, true⟩
    ((q 31 false).loss = false ∧ (q 31 false).records.length < 32) ∧
    ((q 32 false).loss = false ∧ 32 ≤ (q 32 false).records.length) ∧
    ((q 32 true).loss = true ∧ 32 ≤ (q 32 true).records.length) ∧
    ((q 31 true).loss = true ∧ (q 31 true).records.length = 31) ∧
    ((q 30 true).loss = true ∧ (q 30 true).records.length < 31) := by decide

theorem witness_FrameTransactions :
    codeClass 0x30 = none ∧ (codeClass 0x41 = some .queued ∧ parseQueued 0x41 [] = none) ∧
    (parseQueued 0x41 [0x61] = some (.char 0x61) ∧ 16 ≤ crowded.con.inbound.length ∧
      (busy p12Wheel).con.inbound.length < 16) ∧
    ({ State.reset.con with txn := .ignored } : ConsoleLink).txn = .ignored ∧
    ({ State.reset.con with txn := .replying true } : ConsoleLink).txn = .replying true ∧
    (State.reset.con.txn = .none ∧ State.reset.con.txn ≠ .ignored) ∧ ReleaseMoment.inFrame ≠ .atReplyEnd ∧
    (0x61 ∈ ([0x61, 0x75, 0x76, 0x79] : List Byte) ∧ ([] : List Byte).head? ≠ some 0 ∧ ([2] : List Byte).head? ≠ some 1) ∧
    (let c : ConsoleLink := { State.reset.con with txn := .replying true, reply := [5, 0] }
    c.txn = .replying true ∧ 2 < 3 ∧ c.reply[1]? = some 0 ∧ c.reply.length ≤ 2) := by decide

theorem witness_ReportsPulled :
    (fromConsole []).port = .console ∧ (fromConsole []).params = [] ∧ (idle p12Wheel).con.reports.records = [] ∧
    State.reset.con.reports.records = Record.powerOnMech :: [] := by decide

/-- A frame with its stop bit, in the format 8 bits no parity. -/
def good (b : Byte) : RxFrame := ⟨b, false, true, 0⟩

theorem witness_StreamBytesTaken :
    ((idle p12Wheel).GoodByte (good 0x61) 0x61 ∧ (idle p12Wheel).ifl.assembly = .idle) ∧
    (let s (a : Assembly) : State := { idle p12Wheel with ifl := { (idle p12Wheel).ifl with assembly := a } }
    ((s (.code true)).GoodByte (good 0x41) 0x41 ∧ (s (.code true)).ifl.assembly = .code true ∧ (0x41 : Byte) ≠ 0x40) ∧
    ((s (.unknownTag 0x30 none)).GoodByte (good 7) 7 ∧ (s (.unknownTag 0x30 none)).ifl.format.seven = false) ∧
    ((s (.body true 0x41 [] none)).GoodByte (good 7) 7 ∧ ([] ++ [7] : List Byte) = 7 :: [] ∧ paramsMatch 0x41 [] = false) ∧
    ((s (.body true 0x70 [] none)).GoodByte (good 7) 7 ∧ paramsMatch 0x70 [] = true ∧ codeClass 0x70 = some .consoleOnly) ∧
    ((s (.body true 0x41 [7] none)).GoodByte (good 0x61) 0x61 ∧ ([7] ++ [0x61] : List Byte) = 7 :: [0x61] ∧
      paramsMatch 0x41 [0x61] = true ∧ codeClass 0x41 = some .queued ∧ parseQueued 0x41 [0x61] = some (.char 0x61))) := by
  unfold State.GoodByte
  decide

theorem witness_InterfaceErrorsTaken :
    ({ State.reset.ifl with inBreak := true } : InterfaceLink).inBreak = true ∧ State.reset.ifl.inBreak = false ∧
    (RxFrame.mk 0 false false 0).stop = false ∧ parityAgrees .e8 0x01 false = false ∧ parityAgrees .n8 0x01 false = true ∧
    48 ≤ crowded.ifl.inbound.length := by decide

theorem witness_SequenceAssembles :
    State.reset.ifl.assembly = .idle ∧ (codeClass 0x71).isSome = true ∧ paramsMatch 0x71 [2, 0x61, 0x62] = true := by decide

/-- The interface's open line in a mode, with n entries queued. -/
def hostLine (m : Mode) (n : Nat) : State :=
  comp (fun c => { c with mode := m }) (lined .interface [charEntry 0x61 120 1 .held] (filled n (busy p12Wheel)))

/-- With a flush pending, or a takeover. -/
def owed (flush takeover : Bool) (s : State) : State :=
  { s with arb := { s.arb with flushPending := flush, takeover := takeover, timer := none } }

theorem witness_InterfaceIsReset :
    (let s : State := { State.reset with ifl := { State.reset.ifl with inBreak := true } }
    s.ifl.inBreak = true) ∧
    (Instr.breakDetected = .breakDetected ∧ ResetCause.brk = .brk ∧ State.reset.ifl.inBreak = false ∧ State.reset.comp.line = none) ∧
    (let s : State := { State.reset with ifl := { State.reset.ifl with assembly := .code true } }
    Instr.interfaceByte (good 0x40) = .interfaceByte (good 0x40) ∧ s.GoodByte (good 0x40) 0x40 ∧ s.ifl.assembly = .code true) ∧
    ((hostLine .line 0).ifl.inBreak = false ∧ ((hostLine .line 0).comp.line.map ComposeLine.port) = some .interface ∧
      (hostLine .line 0).arb.flushPending = false ∧ (hostLine .line 0).comp.mode = .line) ∧
    ((hostLine .direct 62).comp.mode = .direct ∧ (hostLine .direct 62).seq.queue.length ≤ 62 ∧ (hostLine .direct 62).Engaged) ∧
    (62 < (hostLine .direct 63).seq.queue.length ∧ (owed true false (hostLine .direct 63)).arb.flushPending = true) := by
  unfold State.Engaged State.GoodByte
  decide

theorem witness_ImpliedFlushAndTakeover :
    ((owed true false (hostLine .direct 62)).Engaged ∧ (owed true false (hostLine .direct 62)).arb.flushPending = true ∧
      (owed true false (hostLine .direct 62)).seq.queue.length ≤ 62) ∧
    ((owed true false (hostLine .direct 62)).arb.takeover = false ∧ (owed true true (hostLine .direct 62)).arb.takeover = true ∧
      (owed true true (hostLine .direct 62)).comp.line.isSome = true ∧ (owed true true (hostLine .direct 62)).arb.flushPending = true ∧
      (owed true true (hostLine .direct 62)).Engaged) ∧
    (62 < (owed true false (hostLine .direct 63)).seq.queue.length ∧ (hostLine .direct 0).arb.flushPending = false) ∧
    (heldLine.arb.timer ≠ none ∧ State.reset.arb.timer = none) ∧
    ((owed false true (hostLine .direct 62)).Engaged ∧ (owed false true (hostLine .direct 62)).arb.takeover = true ∧
      (owed false true (hostLine .direct 62)).comp.correction = none ∧
      (owed false true (hostLine .direct 62)).comp.line.isSome = true ∧
      (owed false true (hostLine .direct 62)).comp.mode = .direct) ∧
    ((owed false true (hostLine .line 0)).comp.mode = .line ∧ (owed false true (hostLine .line 0)).comp.printLine = none) ∧
    62 < (owed false true (hostLine .direct 63)).seq.queue.length := by
  unfold State.Engaged
  decide

theorem witness_TransmitterSendsFrames :
    let l : InterfaceLink := { State.reset.ifl with reports := { ReportQueue.empty with records := [⟨.done, 0, false⟩] } }
    State.reset.ifl.reports.records = [] ∧ (l.tx = none ∧ l.reports.records = ⟨.done, 0, false⟩ :: []) ∧
    ({ l with tx := some ⟨[0x1E], true⟩ } : InterfaceLink).tx = some ⟨[0x1E], true⟩ := by decide

/-- A display transaction of width 32 that awaits what the stream says. -/
def fetching (st : Stream) (continuous : Option Nat) : State :=
  { State.reset with dlink := ⟨continuous, some ⟨Image.powerOn, st, 0, false⟩⟩ }

theorem witness_DisplayFetchesTaken :
    State.reset.dlink.txn = none ∧ (fetching .awaitCommand none).dlink.txn = some ⟨Image.powerOn, .awaitCommand, 0, false⟩ ∧
    (fetching .awaitParameter none).dlink.txn = some ⟨Image.powerOn, .awaitParameter, 0, false⟩ ∧
    ((0x9F : Byte).toNat % 64 < Image.powerOn.width ∧ Image.powerOn.width ≤ (0x20 : Byte).toNat % 64) ∧
    ((fetching .awaitCommand (some 3)).dlink.continuous = some 3 ∧ (0xFF : Byte) ≠ 0xA1 ∧ (0xFF : Byte) ≠ 0xA2 ∧
      (0xFF : Byte) ≠ 0xA3) := by decide

theorem witness_StatusFetchTaken :
    (fetching .awaitCommand (some 3)).dlink.txn = some ⟨Image.powerOn, .awaitCommand, 0, false⟩ ∧
    Image.powerOn = (fetching .awaitCommand none).disp.image ∧
    Image.powerOn ≠ ({ Image.powerOn with generation := 1 } : Image) := by decide

theorem witness_NoCommandTaken :
    (fetching .awaitCommand none).dlink.txn = some ⟨Image.powerOn, .awaitCommand, 0, false⟩ ∧
    (fetching .awaitCommand none).dlink.continuous = none ∧ (0xA3 : Byte) ≠ 0xA1 ∧ (0xA3 : Byte) ≠ 0xA2 := by decide

theorem witness_CellStreamBytes :
    0 < 2 ∧ 0 < Image.powerOn.cells.length ∧ Image.powerOn.cells[(31 + 1) % Image.powerOn.cells.length]? = some (Cell.blank true) := by
  decide

theorem witness_WindowFollowsCursor :
    16 ∈ [16, 20, 24, 32, 40] ∧
    (let s (f n : Nat) : State := comp (fun c => { c with printPoint := 120 + 10 * n })
      (lined .console ((List.range 20).map fun i => charEntry 0x61 (120 + 10 * i) (i + 1) .held)
        { idle p12Wheel with disp := { (idle p12Wheel).disp with image := { Image.powerOn with width := 16, first := f } } })
    ((s 0 16).disp.image.first + 16 - 1 < (s 0 16).cursor) ∧ ((s 8 7).cursor < (s 8 7).disp.image.first) ∧
      ((s 0 15).cursor ≤ (s 0 15).disp.image.first + 16 - 1 ∧ (s 0 15).disp.image.first ≤ (s 0 15).cursor)) := by decide

theorem witness_RotationCrossesIndex : (49 + 100 - 99) % 100 ≤ 50 ∧ 51 ≤ (50 + 100 - 99) % 100 := by decide

/-- The mechanism with an entry in flight, in a motion, having made n attempts. -/
def flying (e : SEntry) (m : Motion) (n : Nat) : State :=
  { idle p12Wheel with seq := { (idle p12Wheel).seq with
      inflight := some ⟨e, false, .carriage, 2, 2, 17, false, false⟩, motion := m, attempts := n } }

/-- A PRINT entry. -/
def aPrint : PrintStrike := ⟨0x65, .base, 280, 0, 62, .p12, .console⟩

/-- A LIFT entry with a record reference, or without. -/
def aLift (r : Option Nat) : LiftStrike := ⟨r, 0x61, 1, 120, 2, 17, 3, .console⟩

theorem witness_EntriesComplete :
    ((flying (.move 500) .carriage 0).NothingToBegin ∧ (flying (.move 500) .carriage 0).seq.motion = .carriage) ∧
    (2 + 100 - (flying (.print aPrint) .carriage 0).seq.petal % 100) % 100 ≠ 0 ∧
    ((flying (.feed 2 2) .feed 0).NothingToBegin ∧ (flying (.feed 2 2) .feed 0).seq.motion = .feed) ∧
    ((flying (.print aPrint) (.wheel 0) 0).NothingToBegin ∧ (flying (.print aPrint) (.wheel 0) 0).comp.correction = none ∧
      0 = (if crossesIndex (flying (.print aPrint) (.wheel 0) 0).seq.petal 2 then 1 else 0)) ∧
    (let s (r : Option Nat) : State := { flying (.lift (aLift r)) (.wheel 0) 0 with mem := [⟨0, false, [rec 1 1 120 0x61]⟩] }
    (s (some 1)).NothingToBegin ∧ (aLift (some 1)).ref = some 1 ∧ (aLift none).ref = none ∧
      recordUnder (s none) 0 120 0x61 = some (rec 1 1 120 0x61) ∧ recordUnder (s none) 0 120 0x62 = none) := by
  unfold State.NothingToBegin
  decide

theorem witness_RecordFiled :
    let total (l : List LineSlot) (n : Nat) : Nat := (l.map fun x => x.records.length).sum + n
    (let m := [slot 100 130, slot 102 140, slot 104 120, slot 106 122]
    let others := m.filter fun x => x.vpos != 106
    (m.map LineSlot.vpos).Nodup ∧ m.length ≤ 4 ∧ recordCount m ≤ 512 ∧ 1 ≤ others.length ∧ total (others.drop 1) 122 < 512 ∧
      ∀ i, i < 1 → 512 ≤ total (others.drop i) 122) ∧
    (let m := [slot 1 0, slot 2 0, slot 3 0, slot 4 511]
    (m.any fun x => x.vpos == 5) = false ∧ m.length = 4 ∧ total (m.drop 1) 0 < 512) ∧
    (let m := [slot 4 512]
    (m.map LineSlot.vpos).Nodup ∧ recordCount m ≤ 512 ∧ 512 ≤ ((m.find? fun x => x.vpos == 4).getD (slot 4 0)).records.length) := by
  decide +kernel

theorem witness_MotionsRetried :
    ((flying (.move 500) .carriage 1).Engaged ∧ (flying (.move 500) .carriage 1).seq.attempts < 2) ∧
    ((flying (.print aPrint) (.wheel 1) 1).Engaged ∧ (flying (.print aPrint) (.wheel 1) 1).seq.moving = true ∧
      1 ≠ (if crossesIndex (flying (.print aPrint) (.wheel 1) 1).seq.petal 2 then 1 else 0)) ∧
    (flying (.feed 2 2) .feed 0).Engaged ∧
    (State.reset.Engaged ∧ State.reset.seq.motion = .homeCarriage ∧ State.reset.seq.homingRequest = false) ∧
    ((flying (.print aPrint) .rehomeWheel 1).seq.motion = .rehomeWheel ∧ 2 % 100 ≠ 0 ∧ (500 : Nat) ≠ 0 ∧ aPrint.pos ≠ 0 ∧
      (aLift none).pos ≠ 0) := by
  unfold State.Engaged
  decide

theorem witness_ThirdFailureIsFault :
    2 ≤ (flying (.move 500) .carriage 2).seq.attempts ∧ (∀ f ∈ (flying (.move 500) .carriage 2).seq.inflight, f.discard = false) ∧
    (Axis.carriage = .carriage ∧ (flying (.move 500) .carriage 2).seq.motion = .carriage) ∧
    (flying (.print aPrint) (.wheel 0) 2).seq.motion = .wheel 0 ∧ (flying (.feed 2 2) .feed 2).seq.motion = .feed := by decide

/-- A homing that searches the index, as after power-on. -/
def searching : State :=
  { State.reset with
    wheels := (idle p12Wheel).wheels
    seq := { State.reset.seq with motion := .homeWheel } }

theorem witness_HomingReadsTheWheel :
    searching.seq.motion = .homeWheel ∧ searching.seq.homingRequest = false ∧ searching.seq.fault = false ∧
    searching.seq.queue = [] ∧ searching.seq.inflight = none ∧ searching.seq.holds.wheelAbsent = false ∧
    searching.seq.holds.wheelUndefined = true ∧ searching.seq.holds.pitchChanged = false ∧
    findDescriptor searching.wheels 5 = none ∧ findDescriptor searching.wheels 17 = some p12Wheel ∧
    findDescriptor searching.wheels 0 = none := by decide

theorem witness_SensorsChangeHolds :
    (busy p12Wheel).Engaged ∧
    (let s : State := { idle p12Wheel with seq := { (idle p12Wheel).seq with holds := { Holds.none with coverOpen := true } } }
    s.seq.fault = false ∧ s.seq.homing = false ∧ s.seq.moving = false ∧ s.seq.holds.coverOpen = true) := by
  unfold State.Engaged
  decide

/-- A PRINT held by the ribbon's end. -/
def ribbonHeld : State :=
  { idle p12Wheel with seq := { (idle p12Wheel).seq with
      queue := [.print aPrint], holds := { Holds.none with ribbonOut := true } } }

theorem witness_PrintBegins :
    ribbonHeld.seq.queue = .print aPrint :: [] ∧ ribbonHeld.seq.inflight = none ∧ ribbonHeld.seq.fault = false ∧
    ribbonHeld.seq.homing = false ∧ ribbonHeld.seq.homingRequest = false ∧
    ribbonHeld.seq.holds = { Holds.none with ribbonOut := true } ∧ ribbonHeld.NobodyWaits ∧
    findDescriptor ribbonHeld.wheels ribbonHeld.seq.mounted = some p12Wheel ∧ p12Wheel.petalOf aPrint.code = some 2 ∧
    ribbonHeld.seq.carriage ≠ aPrint.pos := by
  unfold State.NobodyWaits
  decide

theorem witness_SignatureIndices :
    ([0x61, 0x62] : List Byte) ∉ State.reset.spell.userWords ∧ ([0x61, 0x62] : List Byte) ∉ State.reset.spell.rejectWords := by
  decide

theorem witness_CheckCompletes :
    let s (d : Bool) (k : CheckKind) : State :=
      { idle p12Wheel with spell := { (idle p12Wheel).spell with checks := [⟨1, k, [0x61, 0x62], d⟩] } }
    (idle p12Wheel).arb.headWaiting = false ∧ (idle p12Wheel).spell.checks = [] ∧
    (s true (.wordCheck .console 7)).spell.checks = ⟨1, .wordCheck .console 7, [0x61, 0x62], true⟩ :: [] ∧
    (s false (.wordCheck .console 7)).spell.checks = ⟨1, .wordCheck .console 7, [0x61, 0x62], false⟩ :: [] ∧
    (s false (.lineWord true 120 0 .interface)).spell.checks
      = ⟨1, .lineWord true 120 0 .interface, [0x61, 0x62], false⟩ :: [] := by decide

/-- A print line at its cursor. -/
def aPrintLine (n : Nat) : PrintLine :=
  ⟨.console, 0, 9, true, weMet.map Entry.asTyped, n, 120, 2, 2, false⟩

/-- The mechanism busy, a print line FEEDING and n entries queued. -/
def feeding (n cursor : Nat) : State :=
  comp (fun c => { c with printLine := some (aPrintLine cursor) }) (filled n (busy p12Wheel))

theorem witness_PrintLinePlaces :
    ((feeding 60 0).comp.printLine = some (aPrintLine 0) ∧ (feeding 60 0).Engaged ∧ (feeding 60 0).seq.queue.length ≤ 64 ∧
      ∀ e ∈ (aPrintLine 0).entries, e.unprintable = false ∧ (buildPrintEntry (feeding 60 0).descriptor e).lost = false) ∧
    ((feeding 60 13).comp.correction = none ∧ (feeding 60 13).arb.flushPending = false ∧ (feeding 60 13).arb.takeover = false ∧
      (feeding 60 13).arb.headWaiting = false ∧ (aPrintLine 13).entries.length ≤ (aPrintLine 13).cursor ∧
      (feeding 60 13).seq.queue.length + 4 ≤ 64) ∧
    ((aPrintLine 12).cursor < (aPrintLine 12).entries.length ∧ 64 < (feeding 61 13).seq.queue.length + 4) := by
  unfold State.Engaged
  decide

/-- A correction in progress with one target left. -/
def aCorrection : Correction := ⟨.lineCorrect, 9, true, .console, 0, [⟨1, 120, false, false⟩], 0, 0, none, .placing⟩

/-- With n entries queued, one record of the target, and an entry in flight. -/
def correcting (n : Nat) (e : SEntry) : State :=
  { filled n (flying e .carriage 0) with
    comp := { (idle p12Wheel).comp with correction := some aCorrection }
    mem := [⟨0, false, [rec 1 1 120 0x61]⟩] }

theorem witness_LiftsPlaced :
    (let s := correcting 62 (.move 9)
    s.comp.correction = some aCorrection ∧ aCorrection.remaining = [⟨1, 120, false, false⟩] ∧ s.Engaged ∧ s.comp.printLine = none ∧
      s.arb.flushPending = false ∧ s.arb.takeover = false ∧ s.arb.headWaiting = false ∧ s.seq.queue.length ≤ 64 ∧
      printInFlight s 1 = false ∧ (groupRecords s 1 0).length + 1 ≤ 64 - s.seq.queue.length) ∧
    printInFlight (correcting 0 (.print { aPrint with group := 1 })) 1 = true ∧
    64 - (correcting 64 (.move 9)).seq.queue.length < (groupRecords (correcting 64 (.move 9)) 1 0).length ∧
    (aCorrection.notify = true ∧
      (groupRecords (correcting 63 (.move 9)) 1 0).length = 64 - (correcting 63 (.move 9)).seq.queue.length) ∧
    (let c : Correction := { aCorrection with remaining := [], phase := .closing }
    let s : State := { correcting 63 (.move 9) with comp := { (correcting 63 (.move 9)).comp with correction := some c } }
    s.comp.correction = some c ∧ c.remaining = [] ∧ c.notify = true ∧ 1 ≤ 64 - s.seq.queue.length ∧
      64 - (correcting 64 (.move 9)).seq.queue.length = 0) := by
  unfold State.Engaged
  decide

/-! ### Takes -/

/-- A take's state: the mechanism busy, so that there is always room for a MARK. -/
def taking (p : Port) (c : QCmd) (m : Mode) : State := headed p c (comp (fun x => { x with mode := m }) (busy p12Wheel))

theorem room_taking (p : Port) (c : QCmd) (m : Mode) (n : Nat) (h : n + 1 ≤ 64) : (taking p c m).Room (item c) n := by
  refine ⟨?_, fun _ => Or.inr (Or.inr (by cases p <;> rfl))⟩
  have : (taking p c m).seq.queue.length = 0 := by cases p <;> rfl
  rw [this, show (item c).notify = true from rfl]
  simpa using h

theorem head_taking (p : Port) (c : QCmd) (m : Mode) : (taking p c m).head = some (p, item c) := by
  cases p <;> cases m <;> rfl

theorem witness_TextHeldInLineMode :
    ((taking .console (.char 0x61) .line).head = some (.console, item (.char 0x61)) ∧
      (taking .console (.char 0x61) .line).comp.mode = .line ∧ (taking .console (.char 0x61) .line).entries.length < 200 ∧
      (taking .console (.char 0x61) .line).Room (item (.char 0x61)) 0 ∧ (0x61 : Byte) ≠ 0x20 ∧ controlCode 0x61 = false ∧
      120 + escapement (taking .console (.char 0x61) .line).descriptor 0x61 ≤ 1020) ∧
    ((taking .interface .space .line).head = some (.interface, item .space) ∧ (item .space).cmd = .space ∧
      (item (.char 0x20)).cmd = .char 0x20 ∧ 120 + escapement (taking .interface .space .line).descriptor 0x20 ≤ 1020) :=
  ⟨⟨head_taking _ _ _, rfl, by decide, room_taking _ _ _ _ (by decide), by decide, by decide, by decide⟩,
    head_taking _ _ _, rfl, rfl, by decide⟩

theorem witness_TextPlaced :
    ((taking .console (.char 0x61) .direct).head = some (.console, item (.char 0x61)) ∧
      (taking .console (.char 0x61) .direct).comp.mode = .direct ∧
      onDescriptor (taking .console (.char 0x61) .direct).descriptor 0x61 = true ∧
      (taking .console (.char 0x61) .direct).entries.length < 200 ∧
      120 + escapement (taking .console (.char 0x61) .direct).descriptor 0x61 ≤ 1020 ∧
      (taking .console (.char 0x61) .direct).Room (item (.char 0x61)) 1) ∧
    ((taking .console .space .direct).head = some (.console, item .space) ∧
      ¬(Port.console = .console ∧ 0 < (taking .console .space .direct).comp.zone) ∧
      (taking .console .space .direct).comp.underlineOf .console = false ∧ (taking .console .space .direct).Room (item .space) 0) ∧
    ((comp (fun c => { c with consoleUnderline := true }) (taking .console .space .direct)).comp.underlineOf .console = true ∧
      onDescriptor (taking .console .space .direct).descriptor 0x5F = true ∧
      onDescriptor (some { p12Wheel with petals := p12Wheel.petals.take 9 }) 0x5F = false ∧
      (taking .console .space .direct).Room (item .space) 1) ∧
    (let s := comp (fun c => { c with tabs := [400] }) (taking .console .tab .direct)
    400 ∈ s.comp.tabs ∧ s.comp.printPoint < 400 ∧ 400 ≤ s.comp.rm ∧ (∀ x ∈ s.comp.tabs, s.comp.printPoint < x → 400 ≤ x) ∧
      s.head = some (.console, item .tab)) :=
  ⟨⟨head_taking _ _ _, rfl, by decide, by decide, by decide, room_taking _ _ _ _ (by decide)⟩,
    ⟨head_taking _ _ _, by decide, rfl, room_taking _ _ _ _ (by decide)⟩,
    ⟨rfl, by decide, by decide, room_taking _ _ _ _ (by decide)⟩, by decide⟩

/-- A full line. -/
def fullLine (c : QCmd) : State := lined .console (List.replicate 200 (spaceEntry 120)) (taking .console c .direct)

theorem witness_TextRefused :
    controlCode 0x1F = true ∧ (controlCode 0x61 = false ∧ 200 ≤ (fullLine (.char 0x61)).entries.length) ∧
    (let s := comp (fun c => { c with printPoint := 1011 }) (taking .console (.char 0x61) .direct)
    s.head = some (.console, item (.char 0x61)) ∧ s.entries.length < 200 ∧ s.comp.rm < s.comp.printPoint + 10 ∧
      escapement s.descriptor 0x61 = 10 ∧ escapement s.descriptor 0x20 = 10) ∧
    onDescriptor (taking .console (.char 0x7A) .direct).descriptor 0x7A = false ∧
    (taking .console .tab .direct).comp.tabs = [] := by decide +kernel

theorem witness_PositionsMoved :
    ((taking .console .backspace .direct).head = some (.console, item .backspace) ∧
      (taking .console .backspace .direct).Room (item .backspace) 0) ∧
    (taking .interface (.micro 0) .line).head = some (.interface, item (.micro 0)) ∧
    (taking .console (.micro 1) .direct).head = some (.console, item (.micro 1)) ∧ (item (.micro 2)).cmd = .micro 2 ∧
    ((taking .console .indexDown .direct).head = some (.console, item .indexDown) ∧
      (taking .console .indexDown .direct).Room (item .indexDown) 1) ∧
    ((lined .console [] (taking .console .reverseIndex .line)).comp.mode = .line ∧
      (lined .console [] (taking .console .reverseIndex .line)).comp.line ≠ none) ∧
    ((comp (fun c => { c with printLine := some (aPrintLine 0) }) (taking .console .indexDown .line)).comp.line = none ∧
      (comp (fun c => { c with printLine := some (aPrintLine 0) }) (taking .console .indexDown .line)).comp.printLine ≠ none) :=
  ⟨⟨head_taking _ _ _, room_taking _ _ _ _ (by decide)⟩, head_taking _ _ _, head_taking _ _ _, rfl,
    ⟨head_taking _ _ _, room_taking _ _ _ _ (by decide)⟩, by decide, by decide⟩

theorem witness_ReturnInDirectMode :
    ((taking .console (.ret 0) .direct).head = some (.console, item (.ret 0)) ∧
      (taking .console (.ret 0) .direct).comp.mode = .direct ∧ (taking .console (.ret 0) .direct).Room (item (.ret 0)) 2) ∧
    ((taking .interface (.ret 1) .direct).head = some (.interface, item (.ret 1))) ∧
    (let s := comp (fun c => { c with zone := 240, printPoint := 780 }) (taking .console .space .direct)
    s.head = some (.console, item .space) ∧ 0 < s.comp.zone ∧ s.comp.rm ≤ s.comp.printPoint + s.comp.zone) ∧
    64 < (filled 62 (taking .console (.ret 0) .direct)).seq.queue.length + 2 + 1 :=
  ⟨⟨head_taking _ _ _, rfl, room_taking _ _ _ _ (by decide)⟩, head_taking _ _ _, by decide, by decide⟩

/-- A LINE mode line at a RETURN FLUSH, its words in these states. -/
def returning (c : QCmd) (ws : List WordRec) : State :=
  { lined .console weMet (taking .console c .line) with
    spell := { (idle p12Wheel).spell with mode := .hold, words := ws } }

/-- A word in a state. -/
def word (x : WordState) : WordRec := ⟨[1, 2], [0x77, 0x65], 120, false, true, x, none⟩

theorem witness_ReturnInLineMode :
    (let s := taking .console (.ret 1) .line
    s.head = some (.console, item (.ret 1)) ∧ s.comp.printLine = none ∧ s.spell.mode ≠ .hold ∧ s.comp.line = none ∧
      (comp (fun c => { c with printLine := some (aPrintLine 0) }) s).comp.printLine ≠ none) ∧
    (taking .interface (.ret 0) .line).head = some (.interface, item (.ret 0)) ∧ (taking .console (.ret 1) .line).Engaged ∧
    ((lined .console weMet (taking .console (.ret 1) .line)).comp.line.isSome = true ∧
      ∀ e ∈ weMet, e.kind = .space → e.underline = true → e.group ≠ none) ∧
    (let s := returning (.ret 0) [word .checking]
    s.head = some (.console, item (.ret 0)) ∧ s.comp.mode = .line ∧ s.comp.printLine = none ∧
      s.comp.line.map ComposeLine.port = some .console ∧ s.spell.mode = .hold ∧ (∀ w ∈ s.spell.words, w.state ≠ .opened) ∧
      ∃ w ∈ s.spell.words, w.state = .checking) ∧
    (let s := returning (.ret 1) [word .known, word .unknown]
    (∀ w ∈ s.spell.words, w.state ≠ .opened) ∧ (∀ w ∈ s.spell.words, w.state ≠ .checking) ∧
      ∃ w ∈ s.spell.words, w.state = .unknown ∨ w.state = .flagged) := by
  unfold State.Engaged
  decide

/-- The hypotheses of a release by RETURN: a line of an open LINE mode, its alignment request, and its span from 120 to RM 300. -/
theorem witness_ReleaseByReturn :
    (let s := lined .console weMet (taking .console (.ret 0) .line)
    s.head = some (.console, item (.ret 0)) ∧ (item (.ret 0)).cmd = .ret 0 ∧ s.comp.mode = .line ∧ s.comp.printLine = none ∧
      s.comp.line = some ⟨.console, 0, 120, false, weMet, false⟩ ∧ s.spell.mode ≠ .hold ∧ s.Engaged ∧
      s.comp.alignment = none ∧ s.comp.justify = false ∧
      (comp (fun c => { c with alignment := some .right }) s).comp.alignment = some .right) ∧
    (let s := comp (fun c => { c with alignment := some .centre, line := some ⟨.console, 0, 120, true, weMet, false⟩, justify := true })
      (taking .console (.ret 0) .line)
    s.comp.line = some ⟨.console, 0, 120, true, weMet, false⟩ ∧ s.comp.alignment = some .centre ∧ s.comp.justify = true) ∧
    ([spaceEntry 120].reverse.dropWhile fun e => e.kind == .space && !e.underline).reverse = [] ∧
    (weMet.reverse.dropWhile fun e => e.kind == .space && !e.underline).reverse = weMet ∧
    ((∃ e ∈ [(⟨.tab, 0x09, 120, 70, false, false, none, .held, false⟩ : Entry)], e.kind = .tab) ∧ ∀ e ∈ weMet, e.kind ≠ .tab) ∧
    (0 < gapCount weMet ∧ gapCount [charEntry 0x57 120 1 .held] = 0) ∧
    (continuousFrom 120 weMet = true ∧ continuousFrom 110 weMet = false) ∧ (50 / 3 + 1 ≤ 17 ∧ 16 < 50 / 3 + 1) := by
  unfold State.Engaged
  decide

/-- At a gap, and at an entry that is none. -/
theorem witness_JustifiedLineEndsAtMargin :
    (continuousFrom 120 weMet = true ∧ weMet.getLast? = some (charEntry 0x6E 240 10 .held) ∧ 240 + 10 ≤ 300 ∧ 0 < gapCount weMet) ∧
    (weMet[2]? = some (spaceEntry 140) ∧ (layOut 7 50 3 120 0 false false weMet)[2]?.isSome = true ∧
      (spaceEntry 140).kind = .space ∧ (∃ c ∈ weMet.take 2, c.kind = .char) ∧ ∃ c ∈ weMet.drop 3, c.kind = .char) ∧
    (weMet[12]? = some (charEntry 0x6E 240 10 .held) ∧ (layOut 7 50 3 120 0 false false weMet)[12]?.isSome = true ∧
      (charEntry 0x6E 240 10 .held).kind ≠ .space) := by decide

/-- Every command but a text command: its head and its room in both modes. -/
theorem witness_settings_take (p : Port) (c : QCmd) (m : Mode) :
    (taking p c m).head = some (p, item c) ∧ (taking p c m).Room (item c) 0 ∧ (taking p c m).comp.mode = m :=
  ⟨head_taking _ _ _, room_taking _ _ _ _ (by decide), by cases p <;> rfl⟩

theorem witness_FormatAndSettingsTaken :
    ((taking .console (.bold 1) .line).head = some (.console, item (.bold 1)) ∧
      (taking .console (.bold 1) .line).Room (item (.bold 1)) 0) ∧
    ((taking .interface .center .line).comp.mode = .line ∧ (taking .interface .center .direct).comp.mode = .direct) ∧
    ((taking .interface (.spacing 6) .line).head = some (.interface, item (.spacing 6)) ∧
      (taking .interface (.spacing 6) .line).Room (item (.spacing 6)) 0) :=
  ⟨⟨head_taking _ _ _, room_taking _ _ _ _ (by decide)⟩, ⟨rfl, rfl⟩, head_taking _ _ _, room_taking _ _ _ _ (by decide)⟩

theorem witness_MarginsAndTabStopsTaken :
    ((taking .console (.leftMargin 900) .direct).head = some (.console, item (.leftMargin 900)) ∧
      (taking .console (.leftMargin 900) .direct).Room (item (.leftMargin 900)) 0 ∧ (900 ≤ 1800 ∧ 900 + 120 ≤ 1020) ∧
      1020 < 901 + 120) ∧
    (let s := lined .console [charEntry 0x61 300 1 .struck] (taking .console (.rightMargin 305) .direct)
    s.head = some (.console, item (.rightMargin 305)) ∧ ¬(1800 < 305 ∨ 305 < s.comp.lm + 120 ∨
      ∃ lm ∈ s.comp.pendingLm, 305 < lm + 120) ∧ (∃ e ∈ s.entries, e.state ≠ .lifted ∧ 305 < e.pos + e.width) ∧
      ¬(∃ e ∈ s.entries, e.state ≠ .lifted ∧ 310 < e.pos + e.width) ∧ 239 < s.comp.lm + 120) ∧
    (let s (n : Nat) := comp (fun c => { c with tabs := (List.range n).map fun i => i * 50 }) (taking .console (.tabStop 0 1800) .line)
    (s 32).comp.tabs.Pairwise (· < ·) ∧ 1800 ∉ (s 32).comp.tabs ∧ 32 ≤ (s 32).comp.tabs.length ∧ (s 31).comp.tabs.length < 32 ∧
      150 ∈ (s 31).comp.tabs ∧ 1801 ∉ (s 31).comp.tabs ∧ 1800 < 1801 ∧ (s 31).head = some (.console, item (.tabStop 0 1800))) :=
  ⟨⟨head_taking _ _ _, room_taking _ _ _ _ (by decide), by decide, by decide⟩, by decide, by decide⟩

theorem witness_ModesTaken :
    ((taking .console (.mode 1) .direct).head = some (.console, item (.mode 1)) ∧
      (taking .console (.mode 1) .direct).Room (item (.mode 1)) 0 ∧ (taking .console (.mode 1) .direct).comp.line = none ∧
      (taking .console (.mode 1) .direct).comp.printLine = none) ∧
    (lined .console [] (taking .console (.mode 0) .line)).comp.line ≠ none ∧
    (comp (fun c => { c with printLine := some (aPrintLine 0) }) (taking .console (.mode 1) .line)).comp.printLine ≠ none ∧
    ((taking .console (.spellMode 2) .line).head = some (.console, item (.spellMode 2)) ∧
      (taking .interface (.spellReports 1) .line).head = some (.interface, item (.spellReports 1))) :=
  ⟨⟨head_taking _ _ _, room_taking _ _ _ _ (by decide), rfl, rfl⟩, by decide, by decide, head_taking _ _ _, head_taking _ _ _⟩

/-! ### Corrections -/

/-- A held line with the print point behind its last character. -/
def heldText (c : QCmd) : State := comp (fun x => { x with printPoint := 250 }) (lined .console weMet (taking .console c .line))

theorem witness_HeldTargetsDeleted :
    (heldText .correct).head = some (.console, item .correct) ∧ (heldText .correct).Room (item .correct) 0 ∧
    (∃ c, chooseTargets .correct (heldText .correct) (targetLookup (heldText .correct)) = [c] ∧ c.held = true) ∧
    (∃ c d e, chooseTargets .wordCorrect (heldText .wordCorrect) (targetLookup (heldText .wordCorrect)) = [c, d, e] ∧
      ∀ x ∈ [c, d, e], x.held = true) := by
  refine ⟨by decide, ?_, ⟨⟨10, 240, false, true⟩, by decide⟩, ⟨10, 240, false, true⟩, ⟨9, 230, false, true⟩, ⟨8, 220, false, true⟩, by decide⟩
  unfold State.Room State.Engaged
  decide

/-- A closed line with one record left of the print point. -/
def onPaper (c : QCmd) : State :=
  { comp (fun x => { x with printPoint := 140 }) (taking .console c .direct) with mem := [⟨0, false, [rec 1 1 120 0x61]⟩] }

theorem witness_PaperTargetLifted :
    (onPaper .correct).head = some (.console, item .correct) ∧
    chooseTargets .correct (onPaper .correct) (targetLookup (onPaper .correct)) = [⟨1, 120, false, false⟩] ∧
    chooseTargets .lineCorrect (onPaper .lineCorrect) (targetLookup (onPaper .lineCorrect)) = [⟨1, 120, false, false⟩] ∧
    (onPaper .correct).comp.line = none ∧ (onPaper .correct).comp.printLine = none ∧
    printInFlight (onPaper .correct) 1 = false ∧ queuedPrints (onPaper .correct) 1 = 0 ∧ queuedLifts (onPaper .correct) 1 = 0 ∧
    isShortTarget (onPaper .correct) 1 0 false = false ∧ (onPaper .correct).Room (item .correct) 1 ∧ (onPaper .correct).Engaged := by
  unfold State.Room State.Engaged
  decide

theorem witness_CorrectionRefusedOrWaits :
    chooseTargets .correct (taking .console .correct .direct) (targetLookup (taking .console .correct .direct)) = [] ∧
    (let s := comp (fun c => { c with printLine := some (aPrintLine 0) }) (onPaper .correct)
    (chooseTargets .correct s (targetLookup s)).filter (fun c => !c.held) ≠ [] ∧ s.comp.printLine ≠ none) ∧
    (let s := comp (fun c => { c with printPoint := 140 })
      (lined .console [charEntry 0x61 120 1 .struck] (taking .console .correct .direct))
    chooseTargets .correct s (targetLookup s) = [⟨1, 120, false, false⟩] ∧ s.comp.printLine = none ∧
      isEmptyTarget s 1 s.comp.vpos = true) ∧
    (let s := filled 64 (onPaper .correct)
    isEmptyTarget s 1 s.comp.vpos = false ∧
      correctionRoom s [⟨1, 120, false, false⟩] < correctionNeed s [⟨1, 120, false, false⟩] true) := by decide

theorem witness_LiftCharacterAndRelocate :
    ((taking .console (.liftCharacter 0x61) .direct).head = some (.console, item (.liftCharacter 0x61)) ∧
      (taking .console (.liftCharacter 0x61) .direct).Room (item (.liftCharacter 0x61)) 1) ∧
    ((0x20 : Byte).toNat ≤ 0x20 ∧ ¬((0xA0 : Byte).toNat ≤ 0x20 ∨ 0x7F ≤ (0xA0 : Byte).toNat ∧ (0xA0 : Byte).toNat ≤ 0x9F)) ∧
    onDescriptor (taking .console (.liftCharacter 0xA0) .direct).descriptor 0xA0 = false ∧
    (findDescriptor (busy p12Wheel).wheels (busy p12Wheel).seq.mounted = some p12Wheel ∧ p12Wheel.petalOf 0x61 = some 1) ∧
    ((taking .console .relocate .direct).head = some (.console, item .relocate) ∧
      (taking .console .relocate .direct).entries.filter (fun e => e.state != .lifted) = [] ∧
      (lined .console weMet (taking .console .relocate .line)).entries.filter (fun e => e.state != .lifted) ≠ []) :=
  ⟨⟨head_taking _ _ _, room_taking _ _ _ _ (by decide)⟩, by decide, by decide, by decide, head_taking _ _ _, by decide, by decide⟩

theorem witness_EntryJoinsWithFreeGroup :
    (idle p12Wheel).comp.line = none ∧ (lined .console weMet (idle p12Wheel)).comp.line.isSome = true ∧
    (let s := comp (fun c => { c with groupCounter := 65535 }) (lined .console [charEntry 0x61 120 65535 .held] (idle p12Wheel))
    1 ≤ s.comp.groupCounter ∧ s.comp.groupCounter ≤ 65535 ∧ (1 ≤ 1 ∧ 1 ≤ 65535 ∧ groupInUse s 1 = false) ∧ s.freeGroup = 1) := by
  decide

/-! ### Immediate commands -/

theorem witness_MechanismCommands :
    (fromConsole []).port = .console ∧ (fromConsole []).params = [] ∧
    (let s (f : Sequencer → Sequencer) : State := { idle p12Wheel with seq := f (idle p12Wheel).seq }
    ((s fun q => { q with fault := true }).seq.fault = true ∧ (s fun q => { q with fault := true }).seq.homing = false ∧
      (s fun q => { q with fault := true }).seq.moving = false) ∧
    (State.reset.seq.fault = false ∧ State.reset.seq.homing = true) ∧
    ((s id).seq.fault = false ∧ (s id).seq.homing = false ∧ (s id).seq.moving = false ∧ (s id).seq.holds.coverOpen = false ∧
      (s id).seq.holds.pitchChanged = false ∧ (s id).NothingToBegin ∧ (s id).seq.inflight = none) ∧
    (s fun q => { q with holds := { Holds.none with coverOpen := true } }).seq.holds.coverOpen = true ∧
    (let t := s fun q => { q with holds := { Holds.none with pitchChanged := true } }
    t.seq.holds.pitchChanged = true ∧ t.seq.fault = false ∧ t.seq.homing = false ∧ t.seq.moving = false ∧
      t.seq.homingRequest = false ∧ t.seq.inflight = none ∧ t.seq.queue = [])) := by
  unfold State.NothingToBegin
  decide

theorem witness_CancelPendingTaken :
    let s (q : List SEntry) : State := { busy p12Wheel with seq := { (busy p12Wheel).seq with queue := q } }
    ((s []).Engaged ∧ (s []).seq.holds.pitchChanged = false ∧ (s []).comp.printLine = none ∧ (s []).NobodyWaits) ∧
    (s [.print aPrint]).seq.queue ≠ [] := by
  unfold State.Engaged State.NobodyWaits
  decide

theorem witness_WordsAcceptedAndAdded :
    (let s (ws : List WordRec) (us : List (List Byte)) : State :=
      { idle p12Wheel with spell := { (idle p12Wheel).spell with words := ws, userWords := us } }
    (∀ w ∈ (s [word .flagged] []).spell.words, w.state ≠ .unknown) ∧
    ((s [word .known, word .unknown] []).spell.words = [word .known] ++ word .unknown :: [] ∧ (word .unknown).state = .unknown ∧
      (∀ x ∈ [word .known] ++ [], x.state ≠ .unknown) ∧ (word .unknown).letters ∉ (s [] []).spell.userWords ∧
      (s [] []).spell.userWords.length < 64) ∧
    (64 ≤ (s [] (List.replicate 64 [0x61, 0x61])).spell.userWords.length ∧
      (word .unknown).letters ∉ (s [] (List.replicate 64 [0x61, 0x61])).spell.userWords)) ∧
    ((fromConsole [2, 0x41, 0x62]).params = 2 :: [0x41, 0x62] ∧ (2 : Byte).toNat = ([0x41, 0x62] : List Byte).length ∧
      isListWord [0x41, 0x62] = true ∧ isListWord [0x31, 0x62] = false) := by decide +kernel

theorem witness_WordRemoved :
    (fromConsole [2, 0x41, 0x62]).params = 2 :: [0x41, 0x62] ∧ (fromConsole [1]).params = [1] ∧
    (fromHost [2, 0x41, 0x62]).port = .interface ∧ (idle p12Wheel).ifl.inBreak = false ∧ (idle p12Wheel).ifl.inbound.length < 48 ∧
    (settled.spell.userWords = [[0x61, 0x62]] ∧ settled.spell.rejectWords = [[0x61, 0x63]]) := by decide

theorem witness_WordCheckTaken :
    (fromHost [2, 0x41, 0x62]).params = 2 :: [0x41, 0x62] ∧ (2 : Byte).toNat = ([0x41, 0x62] : List Byte).length ∧
    ((fromHost [2, 0x41, 0x62]).port = .interface ∧ (idle p12Wheel).ifl.inBreak = false ∧ (idle p12Wheel).ifl.inbound.length < 48) ∧
    isListWord [0x31] = false ∧ isListWord [0x41, 0x62] = true ∧
    ((idle p12Wheel).spell.checks.length < 8 ∧ 1 ≤ (idle p12Wheel).spell.nextId ∧ (idle p12Wheel).spell.nextId ≤ 255) ∧
    8 ≤ (List.replicate 8 (Check.mk 1 (.wordCheck .console 7) [] false)).length := by decide

theorem witness_LinksAndDisplaySet :
    (fromConsole [60]).port = .console ∧ (fromConsole [60]).params = [60] ∧ (fromConsole [5, 4]).params = [5, 4] ∧
    (fromConsole []).params = [] ∧ (1 ≤ (60 : Byte).toNat ∧ (60 : Byte).toNat ≤ 60) ∧ 60 < (61 : Byte).toNat ∧
    ((32 : Byte).toNat = State.reset.disp.image.width ∧ (16 : Byte).toNat ≠ State.reset.disp.image.width ∧
      (16 : Byte).toNat ∈ [16, 20, 24, 32, 40] ∧ (17 : Byte).toNat ∉ [16, 20, 24, 32, 40]) ∧
    ((fromHost [1]).port = .interface ∧ State.reset.ifl.inBreak = false ∧ State.reset.ifl.inbound.length < 48 ∧ rateOfCode 5 = some .b38400 ∧
      formatOfCode 4 = some .o7 ∧ rateOfCode 6 = none) := by decide

theorem witness_WheelTableWritten :
    ((fromConsole [7, 63, 3]).port = .console ∧ (fromConsole [7, 63, 3]).params = [7, 63, 3] ∧
      ((7 : Byte).toNat ≤ 7 ∧ 1 ≤ (63 : Byte).toNat ∧ (63 : Byte).toNat ≤ 63 ∧ (3 : Byte).toNat ≤ 3) ∧ ¬((8 : Byte).toNat ≤ 7)) ∧
    ((busy p12Wheel).Engaged ∧ (∀ e ∈ (busy p12Wheel).seq.queue, e.strikes = false) ∧
      (∀ f ∈ (busy p12Wheel).seq.inflight, f.stopped = true → f.entry.strikes = false) ∧
      (busy p12Wheel).seq.holds.pitchChanged = false) ∧
    (ribbonHeld.seq.queue.any SEntry.strikes = true ∧
      (ribbonHeld.wheels.getD 2 none).any (fun d => d.code == ribbonHeld.seq.mounted) = true) ∧
    ((fromConsole [2, 99, 1, 0x61, 0x13]).params = 2 :: 99 :: 1 :: [0x61, 0x13] ∧ 99 + 1 ≤ 100 ∧
      (∀ r ∈ petalsOfBytes [0x61, 0x13], r.valid = true) ∧ (busy p12Wheel).wheels.getD 2 none = some p12Wheel ∧
      (busy p12Wheel).wheels.getD 3 none = none) ∧
    (99 < p12Wheel.petals.length ∧ p12Wheel.petals[1]? = some ⟨some 0x61, 3, 2⟩) ∧
    (let s : State := { ribbonHeld with
      wheels := List.replicate 8 none, seq := { ribbonHeld.seq with holds := { Holds.none with wheelUndefined := true } } }
    (fromConsole [7, 17, 3]).params = [7, 17, 3] ∧ pitchOfCode (3 : Byte).toNat = some .ps ∧ (17 : Byte).toNat = s.seq.mounted ∧
      (7 : Byte).toNat < s.wheels.length ∧ findDescriptor s.wheels s.seq.mounted = none ∧ s.seq.fault = false ∧
      s.seq.homing = false ∧ s.seq.moving = false ∧ s.seq.homingRequest = false ∧ s.seq.holds.wheelUndefined = true ∧
      s.seq.holds.pitchChanged = false ∧ s.seq.queue = [.print aPrint] ∧ aPrint.pitch ≠ .ps) := by
  unfold State.Engaged
  decide

theorem witness_EngineReset :
    (fromConsole []).port = .console ∧ (fromConsole []).params = [] := by decide

theorem witness_ConsoleCommandsNotAllowed :
    (fromHost []).port = .interface ∧ State.reset.ifl.inBreak = false ∧ State.reset.ifl.inbound.length < 48 ∧
    ({ State.reset.ifl with inBreak := true } : InterfaceLink).inBreak = true ∧ 48 ≤ crowded.ifl.inbound.length ∧
    crowded.ifl.inBreak = false ∧ (fromHost []).params = [] ∧
    (fromHost [3]).params = [3] ∧ (fromHost [1, 0x61]).params = 1 :: [0x61] ∧ (1 : Byte).toNat = ([0x61] : List Byte).length ∧
    (fromHost [1, 2, 3]).params = [1, 2, 3] ∧ (fromHost [1, 2, 1, 4, 5]).params = 1 :: 2 :: 1 :: [4, 5] ∧
    ([4, 5] : List Byte).length = 2 * (1 : Byte).toNat := by decide

end Sys2Proof.Tests
end

/-! ## The signature indices (R142) -/

namespace Sys2Proof.Machine

/-- The polynomial that R142's index with factor `m` and start `h` evaluates: the first letter's value stands at the highest
power. Tied to the model by `foldl_indexStep_eq_signaturePoly`. -/
def signaturePoly (m h : Nat) (w : List Byte) : Nat :=
  (h * m ^ w.length + ((List.range w.length).map fun i => letterValue (w.getD i 0) * m ^ (w.length - 1 - i)).sum) %
    Config.signatureBits

theorem signaturePoly_nil {m h : Nat} (hh : h < Config.signatureBits) : signaturePoly m h [] = h := by
  simpa [signaturePoly] using Nat.mod_eq_of_lt hh

/-- Horner's step: the first letter of a word moves into the start value. -/
theorem signaturePoly_cons (m h : Nat) (c : Byte) (w : List Byte) :
    signaturePoly m h (c :: w) = signaturePoly m (h * m + letterValue c) w := by
  have power (i : Nat) : w.length - 1 - i = w.length - (i + 1) := by omega
  simp only [signaturePoly, List.length_cons, List.range_succ_eq_map, List.map_cons, List.map_map, List.sum_cons,
    Function.comp_def, List.getD_cons_zero, List.getD_cons_succ, Nat.add_sub_cancel, Nat.sub_zero, Nat.succ_eq_add_one, power]
  congr 1
  ring

/-- A reduction of the start value does not change the reduced polynomial: why R142 may reduce after every letter. -/
theorem signaturePoly_mod_start (m h : Nat) (w : List Byte) :
    signaturePoly m (h % Config.signatureBits) w = signaturePoly m h w :=
  ((Nat.mod_modEq h Config.signatureBits).mul_right _).add_right _

theorem foldl_indexStep_eq_signaturePoly (m : Nat) (w : List Byte) :
    ∀ h < Config.signatureBits, w.foldl (indexStep m) h = signaturePoly m h w := by
  induction w with
  | nil => exact fun h hh => (signaturePoly_nil hh).symm
  | cons c w ih =>
    intro h _
    calc (c :: w).foldl (indexStep m) h
        = signaturePoly m ((h * m + letterValue c) % Config.signatureBits) w := ih _ (Nat.mod_lt _ (by decide))
      _ = signaturePoly m (h * m + letterValue c) w := signaturePoly_mod_start ..
      _ = signaturePoly m h (c :: w) := (signaturePoly_cons ..).symm

theorem signatureIndices_eq (w : List Byte) :
    signatureIndices w = (signaturePoly 31 1 w, signaturePoly 37 7 w, signaturePoly 41 13 w) := by
  have index (m h : Nat) (hh : h < Config.signatureBits) := foldl_indexStep_eq_signaturePoly m w h hh
  rw [signatureIndices, index 31 1 (by decide), index 37 7 (by decide), index 41 13 (by decide)]

/-- One more letter at the end of the word is one more step of each index. -/
theorem signatureIndices_append_letter (w : List Byte) (c : Byte) :
    signatureIndices (w ++ [c]) =
      (indexStep 31 (signatureIndices w).1 c, indexStep 37 (signatureIndices w).2.1 c, indexStep 41 (signatureIndices w).2.2 c) := by
  simp only [signatureIndices, List.foldl_append, List.foldl_cons, List.foldl_nil]

/-- R141's third case: a word that neither list holds is decided by the signature. -/
theorem decision_of_not_listed {u : Spelling} {w : List Byte} (huser : w ∉ u.userWords) (hreject : w ∉ u.rejectWords) :
    u.decision w =
      (if Config.signature (signatureIndices w).1 = true ∧ Config.signature (signatureIndices w).2.1 = true ∧
          Config.signature (signatureIndices w).2.2 = true
        then .known else .unknown, .signature) := by
  simp only [Spelling.decision, List.contains_iff_mem, huser, hreject, if_false, Bool.and_eq_true, and_assoc]
  split <;> rfl

end Sys2Proof.Machine

namespace Sys2Proof.Proofs

open Sys2Proof.Machine

/-- Settles O33, by Horner's scheme along the word: each index is its polynomial, and the decision reads the bits there. -/
theorem signatureIndices : Obligations.SignatureIndices := by
  unfold Obligations.SignatureIndices
  intro w value poly
  refine ⟨signatureIndices_eq w, fun c => ?_, fun u huser hreject => ?_⟩
  · have step := signatureIndices_append_letter w c
    rw [signatureIndices_eq w] at step
    exact step
  · have decided := decision_of_not_listed huser hreject
    rw [signatureIndices_eq w] at decided
    exact decided

end Sys2Proof.Proofs

/-! ## The window of the display image (R154 to R156) -/

namespace Sys2Proof.Machine

/-- A rebuild settles only the generation number of the image it builds, whether anything differs or not. -/
theorem rebuildAt_image (w : Nat) (s : State) :
    ∃ g, (rebuildAt w s).disp.image = { buildImage w s with generation := g } := by
  by_cases h : buildImage w s = s.disp.image
  · exact ⟨(buildImage w s).generation, by rw [rebuildAt_same w s h, ← h]⟩
  · exact ⟨(s.disp.image.generation + 1) % 256, by rw [rebuildAt_new w s h]⟩

theorem rebuildAt_first (w : Nat) (s : State) :
    (rebuildAt w s).disp.image.first = windowFirst w s.disp.image.first s.cursor := by
  obtain ⟨g, himage⟩ := rebuildAt_image w s
  rw [himage]
  rfl

theorem rebuildAt_cells (w : Nat) (s : State) :
    (rebuildAt w s).disp.image.cells =
      (List.range w).map (windowCell (cellEntries s) (rebuildAt w s).disp.image.first s.cursor) := by
  obtain ⟨g, himage⟩ := rebuildAt_image w s
  rw [himage]
  rfl

theorem cursorCell_le_length (es : List Entry) (point : Nat) : cursorCell es point ≤ es.length := by
  unfold cursorCell
  cases hfound : es.findIdx? fun e => decide (point ≤ e.pos) with
  | none => exact le_rfl
  | some k =>
    obtain ⟨hk, -⟩ := List.findIdx?_eq_some_iff_getElem.1 hfound
    exact hk.le

theorem windowCell_of_length_le {es : List Entry} {f j : Nat} (c : Nat) (h : es.length ≤ f + j) :
    windowCell es f c j = Cell.blank (f + j == c) := by
  simp only [windowCell, List.getElem?_eq_none h]

theorem windowFirst_of_right {w f c : Nat} (h : f + w - 1 < c) : windowFirst w f c = c - 3 * w / 4 := if_pos h

theorem windowFirst_of_left {w f c : Nat} (h : c < f) : windowFirst w f c = c - w / 4 := by
  have hright : ¬f + w - 1 < c := by omega
  rw [windowFirst, if_neg hright, if_pos h]

theorem windowFirst_of_within {w f c : Nat} (hright : c ≤ f + w - 1) (hleft : f ≤ c) : windowFirst w f c = f := by
  rw [windowFirst, if_neg hright.not_gt, if_neg hleft.not_gt]

/-- R156's closing words: by whichever of the three rules the window is placed, the cursor's own cell is in view. -/
theorem cursor_in_window {w : Nat} (hw : 0 < w) (f c : Nat) :
    windowFirst w f c ≤ c ∧ c ≤ windowFirst w f c + w - 1 := by
  rcases lt_or_ge (f + w - 1) c with hright | hright
  · rw [windowFirst_of_right hright]
    omega
  · rcases lt_or_ge c f with hleft | hleft
    · rw [windowFirst_of_left hleft]
      omega
    · rw [windowFirst_of_within hright hleft]
      exact ⟨hleft, hright⟩

end Sys2Proof.Machine

namespace Sys2Proof.Proofs

open Sys2Proof.Machine

/-- Settles O24, by the three rules of R156 for the first cell; the five widths enter only as positive. -/
theorem windowFollowsCursor : Obligations.WindowFollowsCursor := by
  unfold Obligations.WindowFollowsCursor
  intro s w hw f c i
  have hpos : 0 < w := by
    simp only [List.mem_cons, List.not_mem_nil, or_false] at hw
    omega
  have hfirst : i.first = windowFirst w f c := rebuildAt_first w s
  obtain ⟨hle, hview⟩ := cursor_in_window hpos f c
  refine ⟨fun hright => ?_, fun hleft => ?_, fun hright hleft => ?_, ?_, ?_, cursorCell_le_length .., fun j hj hblank => ?_⟩
  · rw [hfirst, windowFirst_of_right hright]
    omega
  · rw [hfirst, windowFirst_of_left hleft]
    split <;> omega
  · rw [hfirst, windowFirst_of_within hright hleft]
  · rwa [hfirst]
  · rwa [hfirst]
  · have hcells : i.cells = (List.range w).map (windowCell (cellEntries s) i.first c) := rebuildAt_cells w s
    rw [hcells, List.getElem?_map, List.getElem?_range hj, Option.map_some, windowCell_of_length_le c hblank]

end Sys2Proof.Proofs

/-! ## A display transaction that carries no fetch (R164, R166) -/

namespace Sys2Proof.Machine

theorem DisplayLink.awaiting_eq_some {l : DisplayLink} {t : DisplayTxn} (htxn : l.txn = some t) (hstream : t.stream = .awaitCommand) :
    l.awaiting = some t := by
  simp [DisplayLink.awaiting, htxn, hstream]

/-- R164: STOP turns the continuous fetch off and leaves the transaction nothing but filler. -/
theorem exec_stopFetch_of_awaiting {s : State} {t : DisplayTxn} (h : s.dlink.awaiting = some t) :
    exec .stopFetch s = .next { s with dlink := ⟨none, some { t with stream := .filler, position := 1 }⟩ } := by
  change execStopFetch s = _
  simp only [execStopFetch, h, DisplayLink.firstByte]

/-- R166: with the continuous fetch off, a first byte that is not a fetch code leaves the transaction nothing but filler. -/
theorem exec_displayNoCommand_of_awaiting {s : State} {t : DisplayTxn} {first : Byte} (h : s.dlink.awaiting = some t)
    (hoff : s.dlink.continuous = none) (hwindow : first ≠ 0xA1) (hstatus : first ≠ 0xA2) :
    exec (.displayNoCommand first) s =
      .next { s with dlink := ⟨none, some { t with stream := .filler, position := 1 }⟩ } := by
  have hcode : (first == 0xA1 || first == 0xA2) = false :=
    Bool.or_eq_false_iff.2 ⟨beq_false_of_ne hwindow, beq_false_of_ne hstatus⟩
  change execDisplayNoCommand first s = _
  simp only [execDisplayNoCommand, h, hoff, hcode, DisplayLink.firstByte]

@[simp] theorem DisplayTxn.byteAt_zero (t : DisplayTxn) : t.byteAt 0 = byte t.snapshot.generation := rfl

theorem DisplayTxn.byteAt_succ_of_filler {t : DisplayTxn} (h : t.stream = .filler) (k : Nat) : t.byteAt (k + 1) = 0xFF := by
  simp [DisplayTxn.byteAt, h]

end Sys2Proof.Machine

namespace Sys2Proof.Proofs

open Sys2Proof.Machine

/-- Settles O22: STOP and every other byte leave the same transaction, which carries filler alone. -/
theorem noCommandTaken : Obligations.NoCommandTaken := by
  unfold Obligations.NoCommandTaken
  intro s i n w htxn hoff
  have hawaiting : s.dlink.awaiting = some ⟨i, .awaitCommand, n, w⟩ :=
    DisplayLink.awaiting_eq_some htxn rfl
  exact ⟨⟨i, .filler, 1, w⟩, exec_stopFetch_of_awaiting hawaiting,
    fun _ hwindow hstatus => exec_displayNoCommand_of_awaiting hawaiting hoff hwindow hstatus,
    DisplayTxn.byteAt_zero _, DisplayTxn.byteAt_succ_of_filler rfl⟩

end Sys2Proof.Proofs

/-! ## What every event keeps: the relation -/

namespace Sys2Proof.Machine

/-- R22, R24, R43 to R45: the composer's positions, all three parts, which support one another. -/
def State.Placed (s : State) : Prop := s.MarginsApart ∧ s.OnThePaper ∧ s.StopsInOrder

/-- R173: while a line is open, the grant belongs to its source port. -/
def State.LineGranted (s : State) : Prop := ∀ l ∈ s.comp.line, s.arb.grant = some l.port

/-- A change that takes s to t keeps every invariant that the operations of an event keep one by one. The two others, the running timer's
conditions and the current display, are made good by the end of an event. -/
structure Keeps (s t : State) : Prop where
  queues : s.QueuesBounded → t.QueuesBounded
  memory : s.MemoryBounded → t.MemoryBounded
  placed : s.Placed → t.Placed
  wheels : s.WheelsDistinct → t.WheelsDistinct
  lists : s.ListsDisjoint → t.ListsDisjoint
  settings : s.SettingsInRange → t.SettingsInRange
  counters : s.CountersInRange → t.CountersInRange
  mechanism : s.MechanismSound → t.MechanismSound
  granted : s.LineGranted → t.LineGranted
  width : t.disp.image.width = s.disp.image.width ∨ t.disp.image.width ∈ [16, 20, 24, 32, 40]

theorem Keeps.refl (s : State) : Keeps s s := ⟨id, id, id, id, id, id, id, id, id, .inl rfl⟩

theorem Keeps.trans {s t u : State} (h : Keeps s t) (h' : Keeps t u) : Keeps s u where
  queues := h'.queues ∘ h.queues
  memory := h'.memory ∘ h.memory
  placed := h'.placed ∘ h.placed
  wheels := h'.wheels ∘ h.wheels
  lists := h'.lists ∘ h.lists
  settings := h'.settings ∘ h.settings
  counters := h'.counters ∘ h.counters
  mechanism := h'.mechanism ∘ h.mechanism
  granted := h'.granted ∘ h.granted
  width := by
    rcases h'.width with same | isWidth
    · rw [same]; exact h.width
    · exact .inr isWidth

theorem Keeps.ite {s t u : State} {c : Prop} [Decidable c] (ht : c → Keeps s t) (hu : ¬c → Keeps s u) :
    Keeps s (if c then t else u) := by
  split
  · exact ht ‹_›
  · exact hu ‹_›

/-! ## One block changed -/

theorem keeps_con (s : State) (c : ConsoleLink)
    (hin : s.con.inbound.length ≤ 16 → c.inbound.length ≤ 16)
    (hrec : s.con.reports.records.length ≤ 32 → c.reports.records.length ≤ 32)
    (hlost : s.con.reports.lost ≤ 255 → c.reports.lost ≤ 255)
    (hattn : 1 ≤ s.con.attnLevel → s.con.attnLevel ≤ 32 → 1 ≤ c.attnLevel ∧ c.attnLevel ≤ 32) :
    Keeps s { s with con := c } where
  queues := fun ⟨h1, h2, h3, h4⟩ => ⟨hin h1, h2, hrec h3, h4⟩
  memory := id
  placed := id
  wheels := id
  lists := id
  settings := fun ⟨h1, h2, h3, h4, h5, h6, h7, h8⟩ => ⟨h1, h2, h3, h4, h5, h6, hattn h7 h8⟩
  counters := fun ⟨h1, h2, h3, h4, h5, h6⟩ => ⟨h1, h2, h3, h4, hlost h5, h6⟩
  mechanism := id
  granted := id
  width := .inl rfl

theorem keeps_ifl (s : State) (l : InterfaceLink)
    (hin : s.ifl.inbound.length ≤ 48 → l.inbound.length ≤ 48)
    (hrec : s.ifl.reports.records.length ≤ 32 → l.reports.records.length ≤ 32)
    (hlost : s.ifl.reports.lost ≤ 255 → l.reports.lost ≤ 255)
    (hcounts : s.ifl.framingCount ≤ 255 → s.ifl.parityCount ≤ 255 → s.ifl.overrunCount ≤ 255 →
      l.framingCount ≤ 255 ∧ l.parityCount ≤ 255 ∧ l.overrunCount ≤ 255) :
    Keeps s { s with ifl := l } where
  queues := fun ⟨h1, h2, h3, h4, h5⟩ => ⟨h1, hin h2, h3, hrec h4, h5⟩
  memory := id
  placed := id
  wheels := id
  lists := id
  settings := id
  counters := fun ⟨h1, h2, h3, h4, h5, h6, h7, h8, h9⟩ => ⟨h1, h2, h3, h4, h5, hlost h6, hcounts h7 h8 h9⟩
  mechanism := id
  granted := id
  width := .inl rfl

theorem keeps_dlink (s : State) (l : DisplayLink) : Keeps s { s with dlink := l } :=
  ⟨id, id, id, id, id, id, id, id, id, .inl rfl⟩

theorem keeps_disp (s : State) (d : Display) (hgen : s.disp.image.generation ≤ 255 → d.image.generation ≤ 255)
    (hwidth : d.image.width = s.disp.image.width ∨ d.image.width ∈ [16, 20, 24, 32, 40]) :
    Keeps s { s with disp := d } :=
  ⟨id, id, id, id, id, id, fun ⟨h1, h2, h3, h4, h5⟩ => ⟨h1, h2, h3, hgen h4, h5⟩, id, id, hwidth⟩

theorem keeps_arb (s : State) (a : Arbiter) (hgrant : s.LineGranted → ∀ l ∈ s.comp.line, a.grant = some l.port)
    (hhold : 1 ≤ s.arb.holdTime → s.arb.holdTime ≤ 60 → 1 ≤ a.holdTime ∧ a.holdTime ≤ 60) :
    Keeps s { s with arb := a } where
  queues := id
  memory := id
  placed := id
  wheels := id
  lists := id
  settings := fun ⟨h1, h2, h3, h4, h5, h6, h7⟩ => ⟨h1, h2, h3, h4, (hhold h5 h6).1, (hhold h5 h6).2, h7⟩
  counters := id
  mechanism := id
  granted := hgrant
  width := .inl rfl

theorem keeps_wheels (s : State) (w : List (Option Descriptor))
    (h : s.WheelsDistinct → State.WheelsDistinct { s with wheels := w }) : Keeps s { s with wheels := w } :=
  ⟨id, id, id, h, id, id, id, id, id, .inl rfl⟩

theorem keeps_mem (s : State) (m : List LineSlot)
    (h : s.MemoryBounded → State.MemoryBounded { s with mem := m }) : Keeps s { s with mem := m } :=
  ⟨id, h, id, id, id, id, id, id, id, .inl rfl⟩

theorem keeps_seq (s : State) (q : Sequencer) (hqueue : s.seq.queue.length ≤ 64 → q.queue.length ≤ 64)
    (hsound : s.MechanismSound → State.MechanismSound { s with seq := q }) : Keeps s { s with seq := q } where
  queues := fun ⟨h1, h2, h3, h4, h5, h6⟩ => ⟨h1, h2, h3, h4, hqueue h5, h6⟩
  memory := id
  placed := id
  wheels := id
  lists := id
  settings := id
  counters := id
  mechanism := hsound
  granted := id
  width := .inl rfl

theorem keeps_spell (s : State) (u : Spelling) (hchecks : s.spell.checks.length ≤ 8 → u.checks.length ≤ 8)
    (hid : 1 ≤ s.spell.nextId → s.spell.nextId ≤ 255 → 1 ≤ u.nextId ∧ u.nextId ≤ 255)
    (hlists : s.ListsDisjoint → State.ListsDisjoint { s with spell := u }) : Keeps s { s with spell := u } where
  queues := fun ⟨h1, h2, h3, h4, h5, h6⟩ => ⟨h1, h2, h3, h4, h5, hchecks h6⟩
  memory := id
  placed := id
  wheels := id
  lists := hlists
  settings := id
  counters := fun ⟨h1, h2, h3, h4⟩ => ⟨h1, h2, hid h3.1 h3.2, h4⟩
  mechanism := id
  granted := id
  width := .inl rfl

/-- R46: the composer's settings that carry a range. -/
def Composer.InRange (c : Composer) : Prop := 2 ≤ c.spacing ∧ c.spacing ≤ 6 ∧ c.zone ≤ 240 ∧ c.smax ≤ 60

/-- R25, R39: the composer's counters in range. -/
def Composer.Counted (c : Composer) : Prop := (1 ≤ c.groupCounter ∧ c.groupCounter ≤ 65535) ∧ c.lineCounter ≤ 65535

theorem keeps_comp (s : State) (c : Composer) (hplaced : s.Placed → State.Placed { s with comp := c })
    (hrange : s.comp.InRange → c.InRange) (hcount : s.comp.Counted → c.Counted)
    (hgrant : s.LineGranted → ∀ l ∈ c.line, s.arb.grant = some l.port) : Keeps s { s with comp := c } where
  queues := id
  memory := id
  placed := hplaced
  wheels := id
  lists := id
  settings := fun ⟨h1, h2, h3, h4, h5⟩ => by
    obtain ⟨k1, k2, k3, k4⟩ := hrange ⟨h1, h2, h3, h4⟩
    exact ⟨k1, k2, k3, k4, h5⟩
  counters := fun ⟨h1, h2, h3⟩ => ⟨(hcount ⟨h1, h2⟩).1, (hcount ⟨h1, h2⟩).2, h3⟩
  mechanism := id
  granted := hgrant
  width := .inl rfl

/-! ## Reports, holds, places, the grant -/

theorem ReportQueue.add_records_le (q : ReportQueue) (r : Record) (h : q.records.length ≤ 32) :
    (q.add r).records.length ≤ 32 := by
  unfold ReportQueue.add ReportQueue.countLost Config.reportPlaces
  split
  · split
    · simp; omega
    · split
      · simp; omega
      · simpa
  · split
    · simp; omega
    · simpa

theorem ReportQueue.add_lost_le (q : ReportQueue) (r : Record) (h : q.lost ≤ 255) : (q.add r).lost ≤ 255 := by
  unfold ReportQueue.add ReportQueue.countLost
  split
  · split
    · simp
    · split <;> simp
  · split
    · simpa
    · simp

theorem beginFrame_cases (l : InterfaceLink) : ∃ x, l.beginFrame = { l with tx := x } := by
  unfold InterfaceLink.beginFrame
  split
  · exact ⟨_, rfl⟩
  · exact ⟨l.tx, rfl⟩

theorem queueRecord_keeps (s : State) (p : Port) (r : Record) : Keeps s (queueRecord s p r) := by
  cases p with
  | console => exact keeps_con _ _ id (ReportQueue.add_records_le _ _) (ReportQueue.add_lost_le _ _) fun h h' => ⟨h, h'⟩
  | interface =>
    obtain ⟨x, hx⟩ := beginFrame_cases { s.ifl with reports := s.ifl.reports.add r }
    have framed : queueRecord s .interface r = { s with ifl := { s.ifl with reports := s.ifl.reports.add r, tx := x } } := by
      simp only [queueRecord, hx]
    rw [framed]
    exact keeps_ifl _ _ id (ReportQueue.add_records_le _ _) (ReportQueue.add_lost_le _ _) fun h h' h'' => ⟨h, h', h''⟩

theorem report_keeps (s : State) (p : Port) (tag : Byte) (b : Report) : Keeps s (report s p tag b) := queueRecord_keeps ..

theorem setHolds_keeps (s : State) (h : Holds) : Keeps s { s with seq := { s.seq with holds := h } } := keeps_seq _ _ id id

theorem joinHold_keeps (h : Hold) (s : State) : Keeps s (joinHold h s) :=
  Keeps.ite (fun _ => .refl s) fun _ => (setHolds_keeps s _).trans (queueRecord_keeps ..)

theorem leaveHoldAs_keeps (h : Hold) (x : SeqState) (s : State) : Keeps s (leaveHoldAs h x s) :=
  Keeps.ite (fun _ => (setHolds_keeps s _).trans (queueRecord_keeps ..)) fun _ => .refl s

theorem leaveHold_keeps (h : Hold) (s : State) : Keeps s (leaveHold h s) := leaveHoldAs_keeps ..

theorem pitchTest_keeps (d : Descriptor) (s : State) : Keeps s (pitchTest d s) :=
  Keeps.ite (fun _ => joinHold_keeps ..) fun _ => leaveHold_keeps ..

theorem place_keeps {es : List SEntry} {s : State} (h : es.length ≤ freePlaces s) : Keeps s (place es s) := by
  refine keeps_seq s _ (fun hq => ?_) id
  simp only [freePlaces, Config.strikePlaces] at h
  simp only [List.length_append]
  omega

/-- R67: what shortens the strike queue and leaves the mechanism alone. -/
theorem setQueue_keeps (s : State) (q : List SEntry) (h : q.length ≤ s.seq.queue.length) :
    Keeps s { s with seq := { s.seq with queue := q } } := keeps_seq _ _ h.trans id

theorem withdraw_keeps (g : Nat) (s : State) : Keeps s (withdraw g s) := setQueue_keeps _ _ (List.length_filter_le _ _)

/-- R25: whatever number was assigned, the counter's next value is in its range. -/
theorem nextGroup_in_range (g : Nat) : 1 ≤ nextGroup g ∧ nextGroup g ≤ 65535 := by
  unfold nextGroup
  split <;> omega

theorem useGroup_keeps (s : State) (g : Nat) : Keeps s (s.useGroup g) :=
  keeps_comp _ _ id id (fun h => ⟨nextGroup_in_range g, h.2⟩) id

theorem setInbound_keeps (s : State) (p : Port) (q : List QItem)
    (h : (s.inbound p).length ≤ (match p with | .console => 16 | .interface => 48) →
      q.length ≤ match p with | .console => 16 | .interface => 48) : Keeps s (s.setInbound p q) := by
  cases p with
  | console => exact keeps_con _ _ h id id fun h h' => ⟨h, h'⟩
  | interface => exact keeps_ifl _ _ h id id fun h h' h'' => ⟨h, h', h''⟩

theorem decideGrant_keeps (s : State) : Keeps s (decideGrant s) := by
  refine Keeps.ite (fun _ => .refl s) fun h => keeps_arb _ _ (fun _ l hl => ?_) fun h h' => ⟨h, h'⟩
  have closed : s.comp.line = none := by
    simp only [State.grantFixed, Bool.or_eq_true, not_or] at h
    simpa using h.1.1.1.1
  rw [closed] at hl
  cases hl

theorem enqueue_keeps (p : Port) (it : QItem) (s : State)
    (h : (s.inbound p).length < match p with | .console => 16 | .interface => 48) : Keeps s (enqueue p it s) := by
  have joined : Keeps s (s.setInbound p (s.inbound p ++ [it])) := by
    refine setInbound_keeps _ _ _ fun _ => ?_
    simpa using h
  exact Keeps.ite (fun _ => joined.trans (decideGrant_keeps _)) fun _ => joined

end Sys2Proof.Machine

/-! ## The correction memory: filing a record (R100 to R102) -/

namespace Sys2Proof.Machine

/-- The slots of the other vertical positions, oldest first. -/
def otherSlots (v : Nat) (m : List LineSlot) : List LineSlot := m.filter fun sl => sl.vpos != v

/-- The slots of one vertical position; with distinct positions, at most one. -/
def ownSlots (v : Nat) (m : List LineSlot) : List LineSlot := m.filter fun sl => sl.vpos == v

theorem recordCount_append (a b : List LineSlot) : recordCount (a ++ b) = recordCount a + recordCount b := by
  simp [recordCount]

theorem recordCount_eq_other_add_own (v : Nat) (m : List LineSlot) :
    recordCount m = recordCount (otherSlots v m) + recordCount (ownSlots v m) := by
  induction m with
  | nil => rfl
  | cons sl m ih =>
    by_cases hv : sl.vpos = v <;> simp_all [recordCount, otherSlots, ownSlots] <;> omega

theorem recordCount_drop_le (k : Nat) (m : List LineSlot) : recordCount (m.drop k) ≤ recordCount m := by
  conv_rhs => rw [← List.take_append_drop k m, recordCount_append]
  omega

theorem slotAt_of_ownSlots {v : Nat} {m : List LineSlot} {own : LineSlot} (h : ownSlots v m = [own]) : slotAt m v = some own := by
  rw [slotAt, ← List.head?_filter]
  exact congrArg List.head? h

theorem vpos_of_ownSlots {v : Nat} {m : List LineSlot} {own : LineSlot} (h : ownSlots v m = [own]) : own.vpos = v := by
  have : own ∈ ownSlots v m := by rw [h]; simp
  simpa using (List.mem_filter.1 this).2

/-- With distinct positions, the slot that the lookup finds is the only one there. -/
theorem ownSlots_of_slotAt {v : Nat} {m : List LineSlot} {own : LineSlot} (hm : (m.map LineSlot.vpos).Nodup)
    (h : slotAt m v = some own) : ownSlots v m = [own] := by
  induction m with
  | nil => simp [slotAt] at h
  | cons sl m ih =>
    obtain ⟨hnew, hm⟩ := List.nodup_cons.1 hm
    by_cases hv : sl.vpos = v
    · have hown : sl = own := by simpa [slotAt, hv] using h
      have none_behind : m.filter (fun x => x.vpos == v) = [] := by
        refine List.filter_eq_nil_iff.2 fun x hx hxv => hnew ?_
        rw [hv, ← beq_iff_eq.1 hxv]
        exact List.mem_map_of_mem hx
      simp [ownSlots, ← hown, hv, none_behind]
    · have hrest : slotAt m v = some own := by simpa [slotAt, hv] using h
      simpa [ownSlots, hv] using ih hm hrest

/-! ### The slot made -/

theorem ensureSlot_of_any {v : Nat} {m : List LineSlot} (h : (m.any fun sl => sl.vpos == v) = true) : ensureSlot v m = m := if_pos h

theorem ensureSlot_of_not_any {v : Nat} {m : List LineSlot} (h : (m.any fun sl => sl.vpos == v) = false) :
    ensureSlot v m = (if 4 ≤ m.length then m.drop 1 else m) ++ [⟨v, false, []⟩] := by
  rw [ensureSlot, h, if_neg (by simp)]
  rfl

theorem otherSlots_of_not_any {v : Nat} {m : List LineSlot} (h : (m.any fun sl => sl.vpos == v) = false) : otherSlots v m = m := by
  refine List.filter_eq_self.2 fun sl hsl => ?_
  simpa using List.any_eq_false.1 h sl hsl

theorem ownSlots_of_not_any {v : Nat} {m : List LineSlot} (h : (m.any fun sl => sl.vpos == v) = false) : ownSlots v m = [] :=
  List.filter_eq_nil_iff.2 (List.any_eq_false.1 h)

theorem any_drop_eq_false {v k : Nat} {m : List LineSlot} (h : (m.any fun sl => sl.vpos == v) = false) :
    ((m.drop k).any fun sl => sl.vpos == v) = false :=
  List.any_eq_false.2 fun sl hsl => List.any_eq_false.1 h sl (List.mem_of_mem_drop hsl)

/-- R101: what the making of a slot leaves: the slots of the other positions, the oldest of four dropped for a new one, and the line's
own slot, which is new and empty if there was none. -/
theorem ensureSlot_parts {v : Nat} {m : List LineSlot} (hm : (m.map LineSlot.vpos).Nodup) (hlen : m.length ≤ 4) :
    otherSlots v (ensureSlot v m) =
        (if (m.any fun sl => sl.vpos == v) = false ∧ m.length = 4 then m.drop 1 else otherSlots v m) ∧
      ownSlots v (ensureSlot v m) = [(slotAt m v).getD ⟨v, false, []⟩] := by
  by_cases hany : (m.any fun sl => sl.vpos == v) = true
  · obtain ⟨own, hown⟩ : ∃ own, slotAt m v = some own :=
      Option.isSome_iff_exists.1 (List.find?_isSome.2 (List.any_eq_true.1 hany))
    simp [ensureSlot_of_any hany, hany, hown, ownSlots_of_slotAt hm hown]
  · replace hany := Bool.eq_false_of_not_eq_true hany
    have hslot : slotAt m v = none := List.find?_eq_none.2 (List.any_eq_false.1 hany)
    rw [ensureSlot_of_not_any hany, hslot]
    by_cases hfull : m.length = 4
    · simp only [hfull, hany, otherSlots, ownSlots, List.filter_append, le_refl, if_true, and_self]
      have hothers := otherSlots_of_not_any (any_drop_eq_false (k := 1) hany)
      have hown := ownSlots_of_not_any (any_drop_eq_false (k := 1) hany)
      rw [otherSlots] at hothers
      rw [ownSlots] at hown
      exact ⟨by rw [hothers]; simp, by rw [hown]; simp⟩
    · have hroom : ¬4 ≤ m.length := by omega
      simp only [hroom, hfull, and_false, if_false, otherSlots, ownSlots, List.filter_append]
      exact ⟨by simp, by simpa [ownSlots] using ownSlots_of_not_any hany⟩

/-! ### Room made -/

theorem otherSlots_eraseP (v : Nat) (m : List LineSlot) :
    otherSlots v (m.eraseP fun sl => sl.vpos != v) = (otherSlots v m).drop 1 := by
  induction m with
  | nil => rfl
  | cons sl m ih => by_cases hv : sl.vpos = v <;> simp_all [otherSlots]

theorem ownSlots_eraseP (v : Nat) (m : List LineSlot) :
    ownSlots v (m.eraseP fun sl => sl.vpos != v) = ownSlots v m := by
  induction m with
  | nil => rfl
  | cons sl m ih => by_cases hv : sl.vpos = v <;> simp_all [ownSlots]

theorem dropOthers_of_room {v n : Nat} {m : List LineSlot} (h : recordCount m < 512) : dropOthers v n m = m := by
  cases n with
  | zero => rfl
  | succ n => exact if_pos h

theorem dropOthers_of_none {v n : Nat} {m : List LineSlot} (h : otherSlots v m = []) : dropOthers v n m = m := by
  have found : m.findIdx? (fun sl => sl.vpos != v) = none := List.findIdx?_eq_none_iff.2 (by simpa [otherSlots] using h)
  cases n with
  | zero => rfl
  | succ n => simp [dropOthers, found]

theorem dropOthers_of_full {v n : Nat} {m : List LineSlot} (h : 512 ≤ recordCount m) :
    dropOthers v (n + 1) m = dropOthers v n (m.eraseP fun sl => sl.vpos != v) := by
  have full : ¬recordCount m < Config.memoryRecords := not_lt.2 h
  rw [dropOthers, if_neg full, List.eraseP_eq_eraseIdx]
  cases found : m.findIdx? (fun sl => sl.vpos != v) with
  | some i => rfl
  | none =>
    have none_other : otherSlots v m = [] := by simpa [otherSlots] using List.findIdx?_eq_none_iff.1 found
    exact (dropOthers_of_none none_other).symm

/-- R102: the oldest other slots are dropped whole, one after another, until a place is free or none is left. -/
theorem dropOthers_parts {v : Nat} {own : LineSlot} : ∀ (n : Nat) (m : List LineSlot), ownSlots v m = [own] →
    (otherSlots v m).length ≤ n →
    ∃ j ≤ (otherSlots v m).length, otherSlots v (dropOthers v n m) = (otherSlots v m).drop j ∧
      ownSlots v (dropOthers v n m) = [own] ∧
      (∀ i < j, 512 ≤ recordCount ((otherSlots v m).drop i) + own.records.length) ∧
      (recordCount ((otherSlots v m).drop j) + own.records.length < 512 ∨ j = (otherSlots v m).length) := by
  intro n
  induction n with
  | zero =>
    intro m hown hlen
    have none_left : (otherSlots v m).length = 0 := by omega
    exact ⟨0, by omega, rfl, hown, by omega, .inr none_left.symm⟩
  | succ n ih =>
    intro m hown hlen
    have hcount : recordCount m = recordCount (otherSlots v m) + own.records.length := by
      rw [recordCount_eq_other_add_own v m, hown]
      simp [recordCount]
    by_cases hroom : recordCount m < 512
    · rw [dropOthers_of_room hroom]
      exact ⟨0, by omega, rfl, hown, by omega, .inl (by simpa [← hcount] using hroom)⟩
    · by_cases hnone : otherSlots v m = []
      · rw [dropOthers_of_none hnone]
        exact ⟨0, by omega, rfl, hown, by omega, .inr (by simp [hnone])⟩
      · have hpos : 0 < (otherSlots v m).length := List.length_pos_iff.2 hnone
        rw [dropOthers_of_full (not_lt.1 hroom)]
        obtain ⟨j, hj, hothers, hown', hfull, hend⟩ :=
          ih (m.eraseP fun sl => sl.vpos != v) (by rw [ownSlots_eraseP, hown]) (by
            rw [otherSlots_eraseP, List.length_drop]
            omega)
        rw [otherSlots_eraseP] at hj hothers hfull hend
        simp only [List.drop_drop, List.length_drop] at hj hothers hfull hend
        refine ⟨1 + j, by omega, hothers, hown', fun i hi => ?_, ?_⟩
        · match i with
          | 0 => simpa [← hcount] using not_lt.1 hroom
          | i + 1 => simpa [Nat.add_comm] using hfull i (by omega)
        · exact hend.imp id (by omega)

/-- R102: with a place free nothing is truncated; with none free the line's slot stands alone, and loses what is over. -/
theorem truncateSlot_of_room {m : List LineSlot} (h : recordCount m < 512) : truncateSlot m = m := if_pos h

theorem truncateSlot_of_full {own : LineSlot} (h : 512 ≤ own.records.length) :
    truncateSlot [own] = [{ own with truncated := true, records := own.records.drop (own.records.length + 1 - 512) }] := by
  have full : ¬recordCount [own] < Config.memoryRecords := by
    simp only [recordCount, List.map_singleton, List.sum_singleton, Config.memoryRecords]
    omega
  rw [truncateSlot, if_neg full]
  simp [recordCount, Config.memoryRecords]

theorem eq_ownSlots_of_no_others {v : Nat} {m : List LineSlot} (h : otherSlots v m = []) : m = ownSlots v m := by
  refine (List.filter_eq_self.2 fun sl hsl => ?_).symm
  simpa using List.filter_eq_nil_iff.1 h sl hsl

/-! ### The record filed -/

/-- The line's own slot as the filing finds or makes it. -/
def ownSlot (v : Nat) (m : List LineSlot) : LineSlot := (slotAt m v).getD ⟨v, false, []⟩

/-- The slots of the other lines, the oldest of four gone when a slot is made. -/
def slotsBeside (v : Nat) (m : List LineSlot) : List LineSlot :=
  if (m.any fun sl => sl.vpos == v) = false ∧ m.length = 4 then m.drop 1 else otherSlots v m

/-- R100 to R102: the two ways a record is filed: behind the line's own, with the oldest other slots dropped as far as needed; or, with
the line's slot full by itself, in place of its oldest. -/
theorem fileRecord_cases {v : Nat} {m : List LineSlot} (r : StrikeRec) (hm : (m.map LineSlot.vpos).Nodup) (hlen : m.length ≤ 4) :
    (∃ j ≤ (slotsBeside v m).length,
      recordCount ((slotsBeside v m).drop j) + (ownSlot v m).records.length < 512 ∧
      (∀ i < j, 512 ≤ recordCount ((slotsBeside v m).drop i) + (ownSlot v m).records.length) ∧
      fileRecord v r m = (slotsBeside v m).drop j ++ [{ ownSlot v m with records := (ownSlot v m).records ++ [r] }]) ∨
    (512 ≤ (ownSlot v m).records.length ∧
      (∀ i ≤ (slotsBeside v m).length, 512 ≤ recordCount ((slotsBeside v m).drop i) + (ownSlot v m).records.length) ∧
      fileRecord v r m = [⟨v, true, (ownSlot v m).records.drop ((ownSlot v m).records.length + 1 - 512) ++ [r]⟩]) := by
  obtain ⟨hothers, hown⟩ := ensureSlot_parts (v := v) hm hlen
  change otherSlots v (ensureSlot v m) = slotsBeside v m at hothers
  change ownSlots v (ensureSlot v m) = [ownSlot v m] at hown
  obtain ⟨j, hj, hothers', hown', hfull, hend⟩ :=
    dropOthers_parts (ensureSlot v m).length (ensureSlot v m) hown (List.length_filter_le _ _)
  rw [hothers] at hj hothers' hfull hend
  generalize hM : dropOthers v (ensureSlot v m).length (ensureSlot v m) = M at hothers' hown'
  have hcount : recordCount M = recordCount ((slotsBeside v m).drop j) + (ownSlot v m).records.length := by
    rw [recordCount_eq_other_add_own v M, hothers', hown']
    simp [recordCount]
  by_cases hroom : recordCount M < 512
  · refine .inl ⟨j, hj, hcount ▸ hroom, hfull, ?_⟩
    simp only [fileRecord, hM, truncateSlot_of_room hroom, slotAt_of_ownSlots hown']
    exact congrArg (· ++ _) hothers'
  · have hall : j = (slotsBeside v m).length := hend.resolve_left (by omega)
    have hM' : M = [ownSlot v m] := by
      rw [eq_ownSlots_of_no_others (m := M) (by rw [hothers', hall]; simp), hown']
    have hbig : 512 ≤ (ownSlot v m).records.length := by simpa [hM', recordCount] using hroom
    refine .inr ⟨hbig, fun i hi => ?_, ?_⟩
    · rcases Nat.lt_or_ge i j with hij | hij
      · exact hfull i hij
      · omega
    · have hvpos : (ownSlot v m).vpos = v := vpos_of_ownSlots hown
      simp [fileRecord, hM, hM', truncateSlot_of_full hbig, slotAt, hvpos]

theorem ownSlot_vpos {v : Nat} {m : List LineSlot} : (ownSlot v m).vpos = v := by
  unfold ownSlot
  cases h : slotAt m v with
  | none => rfl
  | some own => exact beq_iff_eq.1 (List.find?_some (p := fun sl : LineSlot => sl.vpos == v) h)

theorem slotsBeside_vpos_ne {v : Nat} {m : List LineSlot} {sl : LineSlot} (h : sl ∈ slotsBeside v m) : sl.vpos ≠ v := by
  unfold slotsBeside at h
  split at h
  · rename_i hnew
    simpa using List.any_eq_false.1 hnew.1 sl (List.mem_of_mem_drop h)
  · simpa [otherSlots] using (List.mem_filter.1 h).2

theorem slotsBeside_sublist {v : Nat} {m : List LineSlot} : (slotsBeside v m).Sublist m := by
  unfold slotsBeside otherSlots
  split
  · exact List.drop_sublist _ _
  · exact List.filter_sublist

theorem slotsBeside_length_le {v : Nat} {m : List LineSlot} (hlen : m.length ≤ 4) : (slotsBeside v m).length ≤ 3 := by
  unfold slotsBeside
  split
  · simp
    omega
  · rename_i h
    by_cases hany : (m.any fun sl => sl.vpos == v) = true
    · obtain ⟨sl, hsl, hv⟩ := List.any_eq_true.1 hany
      have : (otherSlots v m).length < m.length := List.length_filter_lt_length_iff_exists.2 ⟨sl, hsl, by simpa using hv⟩
      omega
    · have : m.length ≠ 4 := fun h4 => h ⟨Bool.eq_false_of_not_eq_true hany, h4⟩
      have : (otherSlots v m).length ≤ m.length := List.length_filter_le _ _
      omega

theorem ownSlot_records_le {v : Nat} {m : List LineSlot} : (ownSlot v m).records.length ≤ recordCount m := by
  unfold ownSlot
  cases h : slotAt m v with
  | none => simp
  | some own =>
    exact List.single_le_sum (by simp) _ (List.mem_map_of_mem (List.mem_of_find?_eq_some h))

/-- R97, R98: the bounds of the memory stand after a record is filed. -/
theorem fileRecord_bounds {v : Nat} {m : List LineSlot} (r : StrikeRec) (hm : (m.map LineSlot.vpos).Nodup) (hlen : m.length ≤ 4)
    (hcount : recordCount m ≤ 512) :
    (fileRecord v r m).length ≤ 4 ∧ recordCount (fileRecord v r m) ≤ 512 ∧ ((fileRecord v r m).map LineSlot.vpos).Nodup := by
  have hbeside : (slotsBeside v m).length ≤ 3 := slotsBeside_length_le hlen
  have hown : (ownSlot v m).records.length ≤ 512 := ownSlot_records_le.trans hcount
  rcases fileRecord_cases (v := v) r hm hlen with ⟨j, -, hroom, -, h⟩ | ⟨hbig, -, h⟩
  · rw [h]
    refine ⟨by simp; omega, ?_, ?_⟩
    · rw [recordCount_append]
      simp [recordCount] at hroom ⊢
      omega
    · rw [List.map_append, List.map_singleton, ownSlot_vpos]
      refine List.nodup_append.2 ⟨?_, by simp, ?_⟩
      · exact (((List.drop_sublist j _).trans slotsBeside_sublist).map _).nodup hm
      · intro a ha b hb hab
        obtain ⟨sl, hsl, rfl⟩ := List.mem_map.1 ha
        exact slotsBeside_vpos_ne (List.mem_of_mem_drop hsl) (hab.trans (List.mem_singleton.1 hb))
  · rw [h]
    refine ⟨by simp, ?_, by simp⟩
    simp [recordCount]
    omega

end Sys2Proof.Machine

namespace Sys2Proof.Proofs

open Sys2Proof.Machine

/-- Settles O26, by the two ways a record is filed; the count of slots dropped is the least that frees a place. -/
theorem recordFiled : Obligations.RecordFiled := by
  unfold Obligations.RecordFiled
  intro m v r hm hlen hcount own others total
  have hbeside : others = slotsBeside v m := rfl
  have hown : own = ownSlot v m := rfl
  have hbound : own.records.length ≤ 512 := ownSlot_records_le.trans hcount
  obtain ⟨hlength, hrecords, -⟩ := fileRecord_bounds (v := v) r hm hlen hcount
  refine ⟨fun j hj hroom hfull => ?_, fun hbig => ?_, hlength, hrecords⟩
  · rcases fileRecord_cases (v := v) r hm hlen with ⟨k, hk, hroom', hfull', h⟩ | ⟨-, hnever, -⟩
    · have hjk : j = k := by
        rcases lt_trichotomy j k with hlt | heq | hgt
        · exact absurd hroom (not_lt.2 (hfull' j hlt))
        · exact heq
        · exact absurd hroom' (not_lt.2 (hfull k hgt))
      rw [h, hjk, hbeside, hown]
    · exact absurd hroom (not_lt.2 (hnever j hj))
  · rcases fileRecord_cases (v := v) r hm hlen with ⟨k, -, hroom, -⟩ | ⟨-, -, h⟩
    · rw [hown] at hbig
      omega
    · have hexact : own.records.length = 512 := le_antisymm hbound hbig
      rw [h, ← hown, hexact]

end Sys2Proof.Proofs

/-! ## What every event keeps: memory, words, lines -/

namespace Sys2Proof.Machine

/-! ### The correction memory -/

theorem fileRecord_keeps (v : Nat) (r : StrikeRec) (s : State) : Keeps s { s with mem := fileRecord v r s.mem } :=
  keeps_mem _ _ fun ⟨hlen, hcount, hm⟩ => fileRecord_bounds r hm hlen hcount

theorem removeRef_keeps (ref : Nat) (s : State) : Keeps s { s with mem := removeRef ref s.mem } := by
  refine keeps_mem _ _ fun ⟨hlen, hcount, hm⟩ => ⟨by simpa [removeRef], le_trans ?_ hcount, ?_⟩
  · simp only [recordCount, removeRef, List.map_map]
    exact List.sum_le_sum fun sl _ => List.length_filter_le _ _
  · simpa [removeRef, Function.comp_def] using hm

theorem clearMemory_keeps (s : State) : Keeps s (clearMemory s) :=
  keeps_mem _ _ fun _ => ⟨by simp, by simp [recordCount], by simp⟩

/-! ### The spelling unit -/

/-- A change of the words and checks: the lists stand, and the check queue's bound and the next id's range are kept. -/
structure Spelling.WordsOnly (u u' : Spelling) : Prop where
  userWords : u'.userWords = u.userWords
  rejectWords : u'.rejectWords = u.rejectWords
  checks : u.checks.length ≤ 8 → u'.checks.length ≤ 8
  nextId : 1 ≤ u.nextId → u.nextId ≤ 255 → 1 ≤ u'.nextId ∧ u'.nextId ≤ 255

theorem Spelling.WordsOnly.refl (u : Spelling) : u.WordsOnly u := ⟨rfl, rfl, id, fun h h' => ⟨h, h'⟩⟩

theorem Spelling.WordsOnly.trans {u v w : Spelling} (h : u.WordsOnly v) (h' : v.WordsOnly w) : u.WordsOnly w where
  userWords := h'.userWords.trans h.userWords
  rejectWords := h'.rejectWords.trans h.rejectWords
  checks := h'.checks ∘ h.checks
  nextId := fun lo hi => h'.nextId (h.nextId lo hi).1 (h.nextId lo hi).2

theorem Spelling.WordsOnly.withWords {u v : Spelling} (h : u.WordsOnly v) (ws : List WordRec) :
    u.WordsOnly { v with words := ws } := ⟨h.userWords, h.rejectWords, h.checks, h.nextId⟩

/-- Fewer checks, other words. -/
theorem Spelling.wordsOnly_of_checks (u : Spelling) (ws : List WordRec) {cs : List Check} (h : cs.length ≤ u.checks.length) :
    u.WordsOnly { u with words := ws, checks := cs } := ⟨rfl, rfl, h.trans, fun h h' => ⟨h, h'⟩⟩

theorem keeps_words (s : State) {u : Spelling} (h : s.spell.WordsOnly u) : Keeps s { s with spell := u } := by
  refine keeps_spell _ _ h.checks h.nextId fun hl => ?_
  unfold State.ListsDisjoint at hl ⊢
  simpa only [h.userWords, h.rejectWords] using hl

theorem nextCheckId_in_range (n : Nat) : 1 ≤ nextCheckId n ∧ nextCheckId n ≤ 255 := by
  unfold nextCheckId
  split <;> omega

theorem Spelling.placeCheck_wordsOnly (u : Spelling) (kind : CheckKind) (letters : List Byte) (h : u.checks.length < 8) :
    u.WordsOnly (u.placeCheck kind letters).2 :=
  ⟨rfl, rfl, fun _ => by simpa [Spelling.placeCheck] using h, fun _ _ => nextCheckId_in_range _⟩

theorem dropChecks_length_le (goes : Check → Bool) (cs : List Check) : (dropChecks goes cs).length ≤ cs.length := by
  cases cs with
  | nil => exact le_rfl
  | cons head waiting => simpa [dropChecks] using List.length_filter_le _ _

theorem Spelling.completeWord_wordsOnly (u : Spelling) (v : Nat) (p : Port) (w : WordRec) :
    u.WordsOnly (u.completeWord v p w).2 := by
  unfold Spelling.completeWord
  dsimp only
  split
  · exact .refl u
  · split
    · exact .refl u
    · split
      · exact .refl u
      · split
        · exact .refl u
        · rename_i hplace
          exact u.placeCheck_wordsOnly _ _ (not_le.1 hplace)

theorem Spelling.enterWords_wordsOnly (v : Nat) (p : Port) (old : List WordRec) :
    ∀ (found : List FoundWord) (u : Spelling), u.WordsOnly (u.enterWords v p old found).2 := by
  intro found
  induction found with
  | nil => exact fun u => .refl u
  | cons f rest ih =>
    intro u
    simp only [Spelling.enterWords]
    split
    · exact (u.completeWord_wordsOnly v p _).trans (ih _)
    · exact ih u

/-! ### The line's entries -/

/-- The compose line's entries replaced by as many or fewer, all of them in places where entries stood. -/
def EntriesWithin (es' es : List Entry) : Prop :=
  es'.length ≤ es.length ∧ ∀ e ∈ es', ∃ x ∈ es, e.pos = x.pos ∧ e.width = x.width

theorem entriesWithin_of_sublist {es' es : List Entry} (h : es'.Sublist es) : EntriesWithin es' es :=
  ⟨h.length_le, fun e he => ⟨e, h.subset he, rfl, rfl⟩⟩

theorem EntriesWithin.map {es' es : List Entry} (h : EntriesWithin es' es) {f : Entry → Entry}
    (hf : ∀ e, (f e).pos = e.pos ∧ (f e).width = e.width) : EntriesWithin (es'.map f) es := by
  refine ⟨by simpa using h.1, fun e he => ?_⟩
  obtain ⟨e', he', rfl⟩ := List.mem_map.1 he
  obtain ⟨x, hx, hpos, hwidth⟩ := h.2 e' he'
  exact ⟨x, hx, (hf e').1.trans hpos, (hf e').2.trans hwidth⟩

theorem setEntries_entries (s : State) (es : List Entry) :
    (s.setEntries es).entries = if s.comp.line.isSome then es else [] := by
  unfold State.entries State.setEntries
  cases s.comp.line <;> rfl

theorem setEntries_granted {s : State} (es : List Entry) (h : s.LineGranted) : (s.setEntries es).LineGranted := by
  intro l hl
  obtain ⟨l', hl', rfl⟩ := Option.mem_map.1 hl
  exact h l' hl'

/-- Entries within the travel, at most 200 of them, keep the line on the paper. -/
theorem setEntries_keeps_of_bounds {s : State} {es : List Entry}
    (h : s.Placed → es.length ≤ 200 ∧ ∀ e ∈ es, e.pos + e.width ≤ 1800) : Keeps s (s.setEntries es) := by
  refine keeps_comp _ _ (fun hp => ?_) id id (setEntries_granted es)
  obtain ⟨hlength, hends⟩ := h hp
  obtain ⟨hmargins, ⟨hpoint, hvpos, -, -⟩, hstops⟩ := hp
  refine ⟨hmargins, ⟨hpoint, hvpos, ?_⟩, hstops⟩
  change (s.setEntries es).entries.length ≤ 200 ∧ ∀ e ∈ (s.setEntries es).entries, e.pos + e.width ≤ 1800
  rw [setEntries_entries]
  split
  · exact ⟨hlength, hends⟩
  · simp

theorem setEntries_keeps {s : State} {es : List Entry} (h : EntriesWithin es s.entries) : Keeps s (s.setEntries es) := by
  refine setEntries_keeps_of_bounds fun ⟨_, ⟨_, _, hlength, hends⟩, _⟩ => ⟨h.1.trans hlength, fun e he => ?_⟩
  obtain ⟨x, hx, hpos, hwidth⟩ := h.2 e he
  rw [hpos, hwidth]
  exact hends x hx

theorem refreshMarkers_keeps (s : State) : Keeps s (refreshMarkers s) :=
  setEntries_keeps ((entriesWithin_of_sublist (List.Sublist.refl _)).map fun _ => ⟨rfl, rfl⟩)

theorem respell_keeps (s : State) : Keeps s (respell s) := by
  unfold respell
  split
  · exact .refl s
  · refine Keeps.trans (keeps_words s ?_) (refreshMarkers_keeps _)
    exact ((s.spell.wordsOnly_of_checks _ (dropChecks_length_le _ _)).trans
      (Spelling.enterWords_wordsOnly _ _ _ _ _)).withWords _

theorem completeLast_keeps (s : State) : Keeps s (completeLast s) := by
  unfold completeLast
  split
  · split
    · exact keeps_words s ((s.spell.completeWord_wordsOnly _ _ _).withWords _)
    · exact .refl s
  · exact .refl s

theorem endWords_keeps (s : State) : Keeps s (endWords s) :=
  (completeLast_keeps s).trans (keeps_words _ (Spelling.wordsOnly_of_checks _ _ (by simp)))

theorem applyResult_keeps (id : Nat) (r : CheckResult) (s : State) : Keeps s (applyResult id r s) :=
  (keeps_words s ((Spelling.WordsOnly.refl _).withWords _)).trans (refreshMarkers_keeps _)

theorem acceptWords_keeps (s : State) : Keeps s (acceptWords s) :=
  (keeps_words s ((Spelling.WordsOnly.refl _).withWords _)).trans (refreshMarkers_keeps _)

theorem spellAlert_keeps (letters : List Byte) (start v : Nat) (port : Port) (r : CheckResult) (s : State) :
    Keeps s (spellAlert letters start v port r s) := by
  refine Keeps.ite (fun _ => .refl s) fun _ => ?_
  exact Keeps.ite (fun _ => (queueRecord_keeps ..).trans (report_keeps ..)) fun _ => queueRecord_keeps ..

theorem completeCheck_keeps (s : State) : Keeps s (completeCheck s) := by
  unfold completeCheck
  split
  · exact .refl s
  · rename_i c rest hchecks
    have left : Keeps s { s with spell := { s.spell with checks := rest } } :=
      keeps_words s (s.spell.wordsOnly_of_checks s.spell.words (by simp [hchecks]))
    refine Keeps.ite (fun _ => left) fun _ => left.trans ?_
    dsimp only
    split
    · exact report_keeps ..
    · split
      · exact (applyResult_keeps ..).trans (spellAlert_keeps ..)
      · exact spellAlert_keeps ..

theorem setSpellMode_keeps (m : SpellMode) (s : State) : Keeps s (setSpellMode m s) := by
  cases m with
  | off => exact keeps_words s ⟨rfl, rfl, (dropChecks_length_le _ _).trans, fun h h' => ⟨h, h'⟩⟩
  | alert => exact keeps_words s ⟨rfl, rfl, id, fun h h' => ⟨h, h'⟩⟩
  | hold => exact keeps_words s ⟨rfl, rfl, id, fun h h' => ⟨h, h'⟩⟩

/-- R149: a word that its list has room for and does not hold yet. -/
theorem addWord_keeps {s : State} {l : WordList} {w : List Byte} (hnew : w ∉ s.spell.list l)
    (hroom : (s.spell.list l).length < l.places) : Keeps s { s with spell := s.spell.addWord l w } := by
  cases l with
  | user =>
    replace hnew : w ∉ s.spell.userWords := hnew
    replace hroom : s.spell.userWords.length < 64 := hroom
    refine keeps_spell _ _ id (fun h h' => ⟨h, h'⟩) fun ⟨_, hlenR, hU, hR, hUR⟩ => ?_
    refine ⟨by simpa [Spelling.addWord] using hroom, (List.length_filter_le _ _).trans hlenR, ?_, hR.filter _, ?_⟩
    · exact List.nodup_append.2 ⟨hU, by simp, fun a ha b hb hab => hnew (by simpa [← List.mem_singleton.1 hb, ← hab] using ha)⟩
    · intro x hx hxR
      obtain ⟨hxR, hxw⟩ := List.mem_filter.1 hxR
      rcases List.mem_append.1 hx with hxU | hxU
      · exact hUR x hxU hxR
      · simp [List.mem_singleton.1 hxU] at hxw
  | reject =>
    replace hnew : w ∉ s.spell.rejectWords := hnew
    replace hroom : s.spell.rejectWords.length < 16 := hroom
    refine keeps_spell _ _ id (fun h h' => ⟨h, h'⟩) fun ⟨hlenU, _, hU, hR, hUR⟩ => ?_
    refine ⟨(List.length_filter_le _ _).trans hlenU, by simpa [Spelling.addWord] using hroom, hU.filter _, ?_, ?_⟩
    · exact List.nodup_append.2 ⟨hR, by simp, fun a ha b hb hab => hnew (by simpa [← List.mem_singleton.1 hb, ← hab] using ha)⟩
    · intro x hx hxR
      obtain ⟨hxU, hxw⟩ := List.mem_filter.1 hx
      rcases List.mem_append.1 hxR with hxR | hxR
      · exact hUR x hxU hxR
      · simp [List.mem_singleton.1 hxR] at hxw

/-- A change of the lists that only takes words away. -/
theorem shorterLists_keeps (s : State) {us rs : List (List Byte)} (hus : us.Sublist s.spell.userWords)
    (hrs : rs.Sublist s.spell.rejectWords) :
    Keeps s { s with spell := { s.spell with userWords := us, rejectWords := rs } } := by
  refine keeps_spell _ _ id (fun h h' => ⟨h, h'⟩) fun ⟨hlenU, hlenR, hU, hR, hUR⟩ => ?_
  exact ⟨hus.length_le.trans hlenU, hrs.length_le.trans hlenR, hU.sublist hus, hR.sublist hrs,
    fun w hw hw' => hUR w (hus.subset hw) (hrs.subset hw')⟩

theorem removeWord_keeps (l : WordList) (w : List Byte) (s : State) : Keeps s { s with spell := s.spell.removeWord l w } := by
  cases l with
  | user => exact shorterLists_keeps s List.filter_sublist (List.Sublist.refl _)
  | reject => exact shorterLists_keeps s (List.Sublist.refl _) List.filter_sublist

theorem clearList_keeps (l : WordList) (s : State) : Keeps s { s with spell := s.spell.clearList l } := by
  cases l with
  | user => exact shorterLists_keeps s (List.nil_sublist _) (List.Sublist.refl _)
  | reject => exact shorterLists_keeps s (List.Sublist.refl _) (List.nil_sublist _)

theorem learnWords_keeps : ∀ (ws : List WordRec) (s : State), Keeps s (learnWords ws s).2.2 := by
  intro ws
  induction ws with
  | nil => exact fun s => .refl s
  | cons w rest ih =>
    intro s
    simp only [learnWords]
    split
    · split
      · exact ih s
      · split
        · exact ih s
        · rename_i hnew hroom
          have hadd : Keeps s { s with spell := s.spell.addWord .user w.letters } :=
            addWord_keeps (by simpa [Spelling.list] using hnew) (not_le.1 hroom)
          exact (hadd.trans (report_keeps ..)).trans (ih _)
    · exact ih s

/-! ### Lines opened, joined and closed -/

/-- R24: the print point moved within the travel. -/
theorem setPoint_keeps {n : Nat} {s : State} (h : s.Placed → n ≤ 1800) : Keeps s (setPoint n s) :=
  keeps_comp _ _ (fun hp => ⟨hp.1, ⟨h hp, hp.2.1.2⟩, hp.2.2⟩) id id id

/-- R29, R173: a line opens for the port that holds the grant. -/
theorem openLine_keeps {p : Port} {s : State} (h : s.arb.grant = some p) : Keeps s (openLine p s) := by
  unfold openLine
  split
  · exact .refl s
  · have opened : Keeps s { s with comp := { s.comp with line := some (freshLine p s) } } := by
      refine keeps_comp _ _ (fun hp => ⟨hp.1, ⟨hp.2.1.1, hp.2.1.2.1, ?_⟩, hp.2.2⟩) id id fun _ l hl => ?_
      · simp [State.entries, freshLine]
      · cases hl
        exact h
    exact opened.trans (keeps_words _ ((Spelling.WordsOnly.refl _).withWords []))

theorem mem_insertEntry {es : List Entry} {e x : Entry} (h : x ∈ insertEntry es e) : x = e ∨ x ∈ es := by
  rcases List.mem_append.1 h with hx | hx
  · exact .inr ((List.takeWhile_sublist _).subset hx)
  · rcases List.mem_cons.1 hx with hx | hx
    · exact .inl hx
    · exact .inr ((List.dropWhile_sublist _).subset hx)

theorem insertEntry_length (es : List Entry) (e : Entry) : (insertEntry es e).length = es.length + 1 := by
  have split := congrArg List.length (List.takeWhile_append_dropWhile (p := fun x : Entry => decide (x.pos ≤ e.pos)) (l := es))
  simp only [insertEntry, List.length_append, List.length_cons] at split ⊢
  omega

/-- R22, R30: an entry joins a line that has a place for it, within the travel. -/
theorem addEntry_keeps {e : Entry} {n : Nat} {s : State}
    (h : s.Placed → s.entries.length < 200 ∧ e.pos + e.width ≤ 1800 ∧ n ≤ 1800) : Keeps s (addEntry e n s) := by
  have joined : Keeps s (s.setEntries (insertEntry s.entries e)) := by
    refine setEntries_keeps_of_bounds fun hp => ⟨?_, fun x hx => ?_⟩
    · rw [insertEntry_length]
      exact (h hp).1
    · rcases mem_insertEntry hx with rfl | hx
      · exact (h hp).2.1
      · exact hp.2.1.2.2.2 x hx
  have moved : Keeps s (setPoint n (s.setEntries (insertEntry s.entries e))) := by
    refine ⟨joined.queues, joined.memory, fun hp => ?_, joined.wheels, joined.lists, joined.settings, joined.counters,
      joined.mechanism, joined.granted, joined.width⟩
    obtain ⟨hm, ⟨-, hv⟩, ht⟩ := joined.placed hp
    exact ⟨hm, ⟨(h hp).2.2, hv⟩, ht⟩
  exact moved.trans (respell_keeps _)

theorem nextLineCount_le (n : Nat) : nextLineCount n ≤ 65535 := by
  unfold nextLineCount
  omega

theorem closeLine_keeps (counted : Bool) (s : State) : Keeps s (closeLine counted s) := by
  unfold closeLine
  split
  · exact .refl s
  · refine (endWords_keeps s).trans (keeps_comp _ _ (fun ⟨⟨hlm, hpending, hrm⟩, ⟨hpoint, hvpos, _⟩, hstops⟩ => ?_) id ?_ ?_)
    · refine ⟨⟨?_, by simp, hrm⟩, ⟨hpoint, hvpos, by simp [State.entries]⟩, hstops⟩
      cases hp : (endWords s).comp.pendingLm with
      | none => simpa [hp] using hlm
      | some lm => simpa [hp] using hpending lm hp
    · rintro ⟨hgroup, hline⟩
      refine ⟨hgroup, ?_⟩
      dsimp only
      split
      · exact nextLineCount_le _
      · exact hline
    · intro _ l hl
      cases hl

theorem closeLine_line (counted : Bool) (s : State) : (closeLine counted s).comp.line = none := by
  rw [closeLine_eq]
  exact lineClosed_line s counted

/-- R43: the margin that a RETURN goes to stands 120 units left of RM. -/
theorem returnLm_le {s : State} (h : s.Placed) : returnLm s + 120 ≤ s.comp.rm := by
  obtain ⟨⟨hlm, hpending, -⟩, -⟩ := h
  unfold returnLm
  split
  · cases hp : s.comp.pendingLm with
    | none => simpa using hlm
    | some lm => simpa using hpending lm hp
  · exact hlm

theorem returnMove_keeps (s : State) : Keeps s (returnMove s) := by
  have closed := closeLine_keeps true s
  have sameGrant : ∀ l ∈ (returnMove s).comp.line, False := by
    simp [returnMove, closeLine_line]
  refine ⟨closed.queues, closed.memory, fun hp => ?_, closed.wheels, closed.lists, closed.settings, closed.counters,
    closed.mechanism, fun _ l hl => (sameGrant l hl).elim, closed.width⟩
  obtain ⟨hm, ⟨-, -, hentries⟩, ht⟩ := closed.placed hp
  have hlm := returnLm_le hp
  have hrm := hp.1.2.2
  refine ⟨hm, ⟨?_, ?_, hentries⟩, ht⟩
  · change returnLm s ≤ 1800
    omega
  · exact min_le_left _ _

theorem returnMove_line (s : State) : (returnMove s).comp.line = none := by
  simp [returnMove, closeLine_line]

end Sys2Proof.Machine

/-! ## What every event keeps: corrections, the mechanism, the print line -/

namespace Sys2Proof.Machine

/-! ### Notices and corrections -/

theorem mapEntries_keeps (s : State) {f : Entry → Entry} (hf : ∀ e, (f e).pos = e.pos ∧ (f e).width = e.width) :
    Keeps s (s.setEntries (s.entries.map f)) :=
  setEntries_keeps ((entriesWithin_of_sublist (List.Sublist.refl _)).map hf)

theorem tellStrike_keeps (g : Nat) (s : State) : Keeps s (tellStrike g s) :=
  Keeps.ite (fun _ => .refl s) fun _ => mapEntries_keeps s fun e => by split <;> exact ⟨rfl, rfl⟩

theorem tellLift_keeps (g : Nat) (s : State) : Keeps s (tellLift g s) := by
  unfold tellLift
  split
  · exact .refl s
  · refine Keeps.ite (fun _ => ?_) fun _ => .refl s
    exact (mapEntries_keeps s fun e => by split <;> exact ⟨rfl, rfl⟩).trans (respell_keeps _)

theorem setCorrection_keeps (c : Option Correction) (s : State) :
    Keeps s { s with comp := { s.comp with correction := c } } := keeps_comp _ _ id id id id

theorem placeTargets_keeps : ∀ (ts : List Target) (c : Correction) (s : State), Keeps s (placeTargets c ts s).2 := by
  intro ts
  induction ts with
  | nil => exact fun c s => .refl s
  | cons t rest ih =>
    intro c s
    simp only [placeTargets]
    split
    · exact .refl s
    · split
      · exact .refl s
      · rename_i hroom
        exact (place_keeps (by simpa using hroom)).trans (ih _ _)

theorem endCorrection_keeps (c : Correction) (s : State) : Keeps s (endCorrection c s) := by
  unfold endCorrection
  refine Keeps.trans (setCorrection_keeps none s) (Keeps.trans ?_ (decideGrant_keeps _))
  split
  · exact .refl _
  · exact report_keeps ..

theorem closeCorrection_keeps (c : Correction) (s : State) : Keeps s (closeCorrection c s) := by
  refine Keeps.ite (fun _ => Keeps.ite (fun _ => setCorrection_keeps _ s) fun hroom => ?_) fun _ => endCorrection_keeps c s
  exact (place_keeps (es := [.mark c.port c.tag .done]) (not_lt.1 hroom)).trans (endCorrection_keeps c _)

theorem correctionWork_keeps (s : State) : Keeps s (correctionWork s) := by
  unfold correctionWork
  split
  · exact .refl s
  · rename_i c _
    refine (placeTargets_keeps c.remaining c s).trans ?_
    dsimp only
    split
    · exact closeCorrection_keeps ..
    · exact setCorrection_keeps ..

theorem withdrawAll_keeps : ∀ (groups : List Nat) (s : State), Keeps s (groups.foldl (fun s g => withdraw g s) s) := by
  intro groups
  induction groups with
  | nil => exact .refl
  | cons g rest ih => exact fun s => (withdraw_keeps g s).trans (ih _)

theorem correctedEntries_within (mode : Mode) (held paper : List Nat) (new old : Nat) (es : List Entry) :
    EntriesWithin (correctedEntries mode held paper new old es) es :=
  (entriesWithin_of_sublist List.filter_sublist).map fun e => by split <;> exact ⟨rfl, rfl⟩

theorem foldl_min_le (ps : List Nat) : ∀ p, ps.foldl min p ≤ p := by
  induction ps with
  | nil => exact fun p => le_rfl
  | cons q ps ih => exact fun p => (ih _).trans (min_le_left _ _)

theorem leastPos_le_of_all {ps : List Nat} {n d : Nat} (hd : d ≤ n) (h : ∀ p ∈ ps, p ≤ n) : (leastPos ps).getD d ≤ n := by
  cases ps with
  | nil => exact hd
  | cons p ps => exact (foldl_min_le ps p).trans (h p (List.mem_cons_self ..))

/-- R110: a candidate of the lookup stands left of the print point. -/
def LeftOf (point : Nat) (cs : List Candidate) : Prop := ∀ c ∈ cs, c.key < point

theorem insertCandidate_mem {c x : Candidate} : ∀ {cs : List Candidate}, x ∈ insertCandidate c cs → x = c ∨ x ∈ cs := by
  intro cs
  induction cs with
  | nil => exact fun h => .inl (List.mem_singleton.1 h)
  | cons d rest ih =>
    intro h
    simp only [insertCandidate] at h
    split at h
    · exact .inr h
    · split at h
      · exact (List.mem_cons.1 h).imp id id
      · rcases List.mem_cons.1 h with h | h
        · exact .inr (h ▸ List.mem_cons_self ..)
        · exact (ih h).imp id (List.mem_cons_of_mem _)

theorem targetLookup_left (s : State) : LeftOf s.comp.printPoint (targetLookup s) := by
  unfold targetLookup
  refine List.foldlRecOn _ _ (by simp [LeftOf]) fun cs hcs g _ => ?_
  split
  · split
    · rename_i hk
      intro c hc
      rcases insertCandidate_mem hc with rfl | hc
      · exact hk
      · exact hcs c hc
    · exact hcs
  · exact hcs

theorem wordWalk_subset (s : State) : ∀ (cs : List Candidate) (t : Candidate), wordWalk s t cs ⊆ cs := by
  intro cs
  induction cs with
  | nil => exact fun t => List.Subset.refl _
  | cons c rest ih =>
    intro t
    simp only [wordWalk]
    split
    · exact List.cons_subset_cons c (ih c)
    · exact List.nil_subset _

theorem chooseTargets_subset (kind : CorrectionKind) (s : State) (cs : List Candidate) : chooseTargets kind s cs ⊆ cs := by
  cases kind with
  | correct => exact List.take_subset _ _
  | lineCorrect => exact List.Subset.refl _
  | wordCorrect =>
    simp only [chooseTargets]
    split
    · exact List.nil_subset _
    · rename_i t rest hdrop
      refine List.Subset.trans (List.cons_subset_cons t (wordWalk_subset s rest t)) ?_
      rw [← hdrop]
      exact (List.dropWhile_sublist _).subset

theorem takeTargets_keeps {targets : List Candidate} {s : State} (h : LeftOf s.comp.printPoint targets) :
    Keeps s (takeTargets targets s) := by
  unfold takeTargets
  dsimp only
  let held := (targets.filter Candidate.held).map Candidate.group
  let paper := (targets.filter fun c => !c.held).map Candidate.group
  let point := leastKey targets s.comp.printPoint
  let withdrawn := paper.foldl (fun s g => withdraw g s) s
  have same : withdrawn.comp = s.comp :=
    List.foldlRecOn (motive := fun u : State => u.comp = s.comp) _ _ rfl fun u hu g _ => hu
  have corrected := (withdrawAll_keeps paper s).trans
    (setEntries_keeps (correctedEntries_within s.comp.mode held paper point s.comp.printPoint withdrawn.entries))
  refine corrected.trans (Keeps.trans (setPoint_keeps (n := point) fun hp => ?_) (respell_keeps _))
  have onPaper : s.comp.printPoint ≤ 1800 := by
    have := hp.2.1.1
    rwa [setEntries_comp, show (List.foldl (fun s g => withdraw g s) s paper).comp = s.comp from same] at this
  refine leastPos_le_of_all onPaper fun k hk => ?_
  obtain ⟨c, hc, rfl⟩ := List.mem_map.1 hk
  exact (h c hc).le.trans onPaper

/-! ### The mechanism -/

/-- R67, R71, R82, R84: what MechanismSound says of the sequencer, for one of its states. -/
theorem setSeq_keeps {s : State} {q : Sequencer} (hqueue : q.queue.length ≤ s.seq.queue.length)
    (hsound : s.MechanismSound → State.MechanismSound { s with seq := q }) : Keeps s (s.setSeq q) :=
  keeps_seq s q hqueue.trans hsound

/-- With nothing in flight and no motion, the mechanism is sound. -/
theorem mechanismSound_of_rest {s : State} (hmotion : s.seq.motion = .rest) (hmoving : s.seq.moving = false)
    (hattempts : s.seq.attempts ≤ 3) : s.MechanismSound := by
  refine ⟨?_, fun _ => hmotion, fun h => absurd hmotion h, hattempts⟩
  simp [hmoving, hmotion]

theorem moving_of_none {q : Sequencer} (h : q.inflight = none) : q.moving = false := by simp [Sequencer.moving, h]

theorem endFlight_keeps (s : State) : Keeps s (endFlight s) :=
  setSeq_keeps le_rfl fun h => mechanismSound_of_rest rfl (moving_of_none rfl) h.2.2.2

theorem resumeCorrection_keeps (s : State) : Keeps s (resumeCorrection s) :=
  Keeps.ite (fun _ => correctionWork_keeps s) fun _ => .refl s

theorem strikeOver_keeps (g : Nat) (s : State) : Keeps s (strikeOver g s) :=
  (tellStrike_keeps g s).trans (resumeCorrection_keeps _)

theorem completePrint_keeps (p : PrintStrike) (f : InFlight) (s : State) : Keeps s (completePrint p f s) :=
  (fileRecord_keeps ..).trans (strikeOver_keeps ..)

theorem completeLift_keeps (l : LiftStrike) (s : State) : Keeps s (completeLift l s) := by
  unfold completeLift
  split
  · exact (removeRef_keeps ..).trans (tellLift_keeps ..)
  · split
    · exact (removeRef_keeps ..).trans (tellLift_keeps ..)
    · exact .refl s

theorem setVpos_keeps (v : Nat) (s : State) : Keeps s (s.setSeq { s.seq with vpos := v }) := setSeq_keeps le_rfl id

theorem completeFeed_keeps (result : Nat) (clamped : Bool) (s : State) : Keeps s (completeFeed result clamped s) :=
  (setVpos_keeps result s).trans (Keeps.ite (fun _ => clearMemory_keeps _) fun _ => .refl _)

theorem completeMark_keeps (port : Port) (tag : Byte) (kind : MarkKind) (s : State) : Keeps s (completeMark port tag kind s) := by
  cases kind <;> exact report_keeps ..

theorem endDiscarded_keeps (s : State) : Keeps s (endDiscarded s) :=
  ((endFlight_keeps s).trans (setVpos_keeps 0 _)).trans (resumeCorrection_keeps _)

theorem completeEntry_keeps (f : InFlight) (s : State) : Keeps s (completeEntry f s) := by
  refine Keeps.ite (fun _ => endDiscarded_keeps s) fun _ => (endFlight_keeps s).trans ?_
  split
  · exact completePrint_keeps ..
  · exact completeLift_keeps ..
  · exact completeFeed_keeps ..
  · exact .refl _
  · exact completeMark_keeps ..

theorem skipPrint_keeps (p : PrintStrike) (s : State) : Keeps s (skipPrint p s) :=
  ((endFlight_keeps s).trans (strikeOver_keeps ..)).trans (report_keeps ..)

theorem dropLift_keeps (l : LiftStrike) (b : Report) (s : State) : Keeps s (dropLift l b s) :=
  (endFlight_keeps s).trans (report_keeps ..)

/-- When a motion of an entry may start: the entry is not stopped, there is no FAULT, and a retry has attempts left. -/
def MayMove (f : InFlight) (first : Bool) (s : State) : Prop :=
  s.MechanismSound → f.stopped = false ∧ s.seq.fault = false ∧ (first = false → s.seq.attempts ≤ 2)

theorem MayMove.first {f : InFlight} {first : Bool} {s : State} (h : MayMove f first s) : MayMove f true s :=
  fun hs => ⟨(h hs).1, (h hs).2.1, nofun⟩

/-- The motions that an entry in flight makes. -/
def Motion.ofEntry (m : Motion) : Prop := m ≠ .rest ∧ m ≠ .homeCarriage ∧ m ≠ .homeWheel

theorem startMotion_keeps {f : InFlight} {m : Motion} {first : Bool} {s : State} (hm : m.ofEntry) (h : MayMove f first s) :
    Keeps s (startMotion f m first s) := by
  refine setSeq_keeps le_rfl fun hs => ?_
  obtain ⟨hstopped, hfault, hattempts⟩ := h hs
  obtain ⟨hrest, hcarriage, hwheel⟩ := hm
  have tried : (if first then 0 else s.seq.attempts) ≤ 2 := by
    split
    · omega
    · exact hattempts (by simpa using ‹¬first = true›)
  refine ⟨?_, ?_, fun _ => tried, tried.trans (by omega)⟩
  · simp [Sequencer.moving, Sequencer.homing, hstopped, hrest, hcarriage, hwheel]
  · simp [hfault]

theorem turnWheel_keeps {f : InFlight} {first : Bool} {s : State} (h : MayMove f first s) : Keeps s (turnWheel f first s) :=
  Keeps.ite (fun _ => completeEntry_keeps ..) fun _ => startMotion_keeps ⟨nofun, nofun, nofun⟩ h

theorem afterCarriage_keeps {f : InFlight} {s : State} (h : MayMove f true s) : Keeps s (afterCarriage f s) := by
  unfold afterCarriage
  split
  · exact turnWheel_keeps h
  · exact turnWheel_keeps h
  · exact completeEntry_keeps ..

theorem driveCarriage_keeps {f : InFlight} {first : Bool} {s : State} (h : MayMove f first s) :
    Keeps s (driveCarriage f first s) :=
  Keeps.ite (fun _ => afterCarriage_keeps h.first) fun _ => startMotion_keeps ⟨nofun, nofun, nofun⟩ h

theorem mayMove_of_fresh {f : InFlight} {s : State} (hf : f.stopped = false) (hs : s.seq.fault = false) : MayMove f true s :=
  fun _ => ⟨hf, hs, nofun⟩

theorem beginEntry_keeps {e : SEntry} {s : State} (h : s.seq.fault = false) : Keeps s (beginEntry e s) := by
  cases e with
  | print p =>
    simp only [beginEntry, beginPrint]
    split
    · exact skipPrint_keeps ..
    · exact driveCarriage_keeps (mayMove_of_fresh rfl h)
  | lift l =>
    exact Keeps.ite (fun _ => dropLift_keeps ..) fun _ =>
      Keeps.ite (fun _ => dropLift_keeps ..) fun _ => driveCarriage_keeps (mayMove_of_fresh rfl h)
  | feed amount result =>
    exact Keeps.ite (fun _ => completeEntry_keeps ..) fun _ =>
      startMotion_keeps ⟨nofun, nofun, nofun⟩ (mayMove_of_fresh rfl h)
  | move t => exact driveCarriage_keeps (mayMove_of_fresh rfl h)
  | mark port tag kind => exact (endFlight_keeps s).trans (completeMark_keeps ..)

/-- R86: a homing that starts with nothing moving and no FAULT. -/
theorem startHoming_keeps {s : State} (hfault : s.seq.fault = false) (hmoving : s.seq.moving = false) :
    Keeps s (startHoming s) := by
  refine setSeq_keeps le_rfl fun _ => ⟨?_, ?_, fun _ => Nat.zero_le _, Nat.zero_le _⟩
  · have still : Sequencer.moving { s.seq with homingRequest := false, motion := .homeCarriage, attempts := 0 } = false := hmoving
    rw [still]
    simp [Sequencer.homing]
  · simp [hfault]

theorem wheelLookup_keeps (s : State) : Keeps s (wheelLookup s) :=
  Keeps.ite (fun _ => joinHold_keeps ..) fun _ => leaveHold_keeps ..

theorem readHub_keeps (code : Nat) (s : State) : Keeps s (readHub code s) := by
  refine Keeps.trans (setSeq_keeps (q := { s.seq with mounted := code }) le_rfl id) (Keeps.trans ?_ (wheelLookup_keeps _))
  exact Keeps.ite (fun _ => .refl _) fun _ => report_keeps ..

theorem moving_of_homing {s : State} (hs : s.MechanismSound) (h : s.seq.homing = true) : s.seq.moving = false :=
  Bool.eq_false_of_not_eq_true fun hm => by simp [(hs.1.1 hm).2] at h

/-- With a homing in progress nothing in flight is moving, so the homing's end leaves the mechanism at rest. -/
theorem restFromHoming_keeps {s : State} (hhoming : s.seq.homing = true) :
    Keeps s (s.setSeq { s.seq with motion := .rest }) := by
  exact setSeq_keeps le_rfl fun hs => mechanismSound_of_rest rfl (moving_of_homing (s := s) hs hhoming) hs.2.2.2

theorem joinHold_motion (h : Hold) (s : State) : (joinHold h s).seq.motion = s.seq.motion := by
  unfold joinHold
  split
  · rfl
  · simp

theorem leaveHoldAs_motion (h : Hold) (x : SeqState) (s : State) : (leaveHoldAs h x s).seq.motion = s.seq.motion := by
  unfold leaveHoldAs
  split
  · simp
  · rfl

theorem wheelLookup_motion (s : State) : (wheelLookup s).seq.motion = s.seq.motion := by
  unfold wheelLookup
  split
  · exact joinHold_motion ..
  · exact leaveHoldAs_motion ..

theorem readHub_motion (code : Nat) (s : State) : (readHub code s).seq.motion = s.seq.motion := by
  unfold readHub
  dsimp only
  rw [wheelLookup_motion]
  split <;> simp

theorem homing_of_motion {q q' : Sequencer} (h : q'.motion = q.motion) : q'.homing = q.homing := by
  simp [Sequencer.homing, h]

theorem finishHoming_keeps {code : Nat} {s : State} (h : s.seq.homing = true) : Keeps s (finishHoming code s) := by
  unfold finishHoming
  dsimp only
  refine (readHub_keeps code s).trans (Keeps.trans (restFromHoming_keeps ?_) ?_)
  · rwa [homing_of_motion (readHub_motion code s)]
  · split
    · exact pitchTest_keeps ..
    · exact .refl _

theorem stopHoming_keeps {s : State} (h : s.seq.homing = true) : Keeps s (stopHoming s) := restFromHoming_keeps h

theorem homedCarriage_keeps {s : State} (h : s.seq.homing = true) : Keeps s (homedCarriage s) := by
  refine Keeps.trans (setSeq_keeps (q := { s.seq with carriage := 0 }) le_rfl id) ?_
  refine Keeps.ite (fun _ => stopHoming_keeps h) fun _ => setSeq_keeps le_rfl fun hs => ?_
  obtain ⟨hmoving, hfault, hattempts, hmax⟩ := hs
  have running : s.seq.motion ≠ .rest := fun hrest => by simp [Sequencer.homing, hrest] at h
  have still : s.seq.moving = false := moving_of_homing (s := s) ⟨hmoving, hfault, hattempts, hmax⟩ h
  refine ⟨?_, fun hf => absurd (hfault hf) running, fun _ => hattempts running, hmax⟩
  have still' : Sequencer.moving { s.seq with carriage := 0, motion := .homeWheel } = false := still
  change Sequencer.moving { s.seq with carriage := 0, motion := .homeWheel } = true ↔ _
  rw [still']
  simp [Sequencer.homing]

theorem homedWheel_keeps {code : Nat} {s : State} (h : s.seq.homing = true) : Keeps s (homedWheel code s) := by
  refine Keeps.trans ((setSeq_keeps (q := { s.seq with petal := 0 }) le_rfl id).trans (leaveHold_keeps .wheelAbsent _)) ?_
  have homing : (leaveHold .wheelAbsent (s.setSeq { s.seq with petal := 0 })).seq.homing = true := by
    exact (homing_of_motion (leaveHoldAs_motion ..)).trans h
  exact Keeps.ite (fun _ => stopHoming_keeps homing) fun _ => finishHoming_keeps homing

theorem indexNotFound_keeps {s : State} (h : s.seq.homing = true) : Keeps s (indexNotFound s) := by
  refine Keeps.trans (joinHold_keeps .wheelAbsent s) ?_
  have homing : (joinHold .wheelAbsent s).seq.homing = true := by exact (homing_of_motion (joinHold_motion ..)).trans h
  exact Keeps.ite (fun _ => stopHoming_keeps homing) fun _ => finishHoming_keeps homing

end Sys2Proof.Machine

/-! ## What every event keeps: failed motions, signals, the print line, takes, the cascade -/

namespace Sys2Proof.Machine

/-! ### Failed attempts and signals -/

/-- R84: in FAULT the entry in flight is stopped and nothing moves. -/
theorem moving_of_stopped {q : Sequencer} {i : Option InFlight}
    (h : q.inflight = i.map fun f => { f with stopped := true }) : q.moving = false := by
  unfold Sequencer.moving
  rw [h]
  cases i <;> rfl

theorem attempts_of_axis {s : State} {axis : Axis} (hs : s.MechanismSound) (h : s.seq.motion.axis = some axis) :
    s.seq.attempts ≤ 2 := by
  refine hs.2.2.1 fun hrest => ?_
  simp [hrest, Motion.axis] at h

/-- R84: the third failed attempt, from a motion in progress. -/
theorem enterFault_keeps {axis : Axis} {s : State} (h : s.seq.motion.axis = some axis) :
    Keeps s (enterFault axis (s.setSeq { s.seq with attempts := s.seq.attempts + 1 })) := by
  refine Keeps.ite (fun _ => ?_) fun _ => ?_
  · have ended : Keeps s (endFlight (s.setSeq { s.seq with attempts := s.seq.attempts + 1 })) :=
      setSeq_keeps le_rfl fun hs => mechanismSound_of_rest rfl (moving_of_none rfl) (by
        have := attempts_of_axis hs h
        change s.seq.attempts + 1 ≤ 3
        omega)
    exact (ended.trans (setVpos_keeps 0 _)).trans (resumeCorrection_keeps _)
  · have stopped : Keeps s (s.setSeq { s.seq with
        attempts := s.seq.attempts + 1, fault := true, motion := .rest
        inflight := s.seq.inflight.map fun f => { f with stopped := true } }) :=
      setSeq_keeps le_rfl fun hs => mechanismSound_of_rest rfl (moving_of_stopped rfl) (by
        have := attempts_of_axis hs h
        change s.seq.attempts + 1 ≤ 3
        omega)
    exact stopped.trans (queueRecord_keeps ..)

/-- R82: a retry keeps a motion of the same sort going, so what is moving stays moving. -/
theorem retryMotion_keeps {axis : Axis} {s : State} (h : s.seq.motion.axis = some axis)
    (hleft : s.seq.attempts + 1 < 3) :
    Keeps s (retryMotion s.seq.motion (s.setSeq { s.seq with attempts := s.seq.attempts + 1 })) := by
  have running : s.seq.motion ≠ .rest := fun hrest => by simp [hrest, Motion.axis] at h
  have again (m : Motion) (hm : m ≠ .rest) (hsame : Sequencer.homing { s.seq with motion := m } = s.seq.homing) :
      Keeps s (s.setSeq { s.seq with attempts := s.seq.attempts + 1, motion := m }) := by
    refine setSeq_keeps le_rfl fun hs => ?_
    obtain ⟨hmoving, hfault, -, -⟩ := hs
    refine ⟨?_, fun hf => absurd (hfault hf) running, fun _ => Nat.le_of_lt_succ hleft, Nat.le_of_lt hleft⟩
    change s.seq.moving = true ↔ m ≠ .rest ∧ Sequencer.homing { s.seq with motion := m } = false
    rw [hmoving, hsame]
    simp [running, hm]
  have same := again s.seq.motion running rfl
  have stopped (hh : s.seq.homing = true) :
      Keeps s (stopHoming (s.setSeq { s.seq with attempts := s.seq.attempts + 1 })) :=
    setSeq_keeps le_rfl fun hs => mechanismSound_of_rest rfl (moving_of_homing (s := s) hs hh) (Nat.le_of_lt hleft)
  unfold retryMotion
  split
  · rename_i hm
    exact again .rehomeCarriage nofun (by simp only [Sequencer.homing, hm]; rfl)
  · rename_i hm
    exact again .rehomeCarriage nofun (by simp [Sequencer.homing, hm])
  · rename_i hm
    exact again .rehomeWheel nofun (by simp only [Sequencer.homing, hm]; rfl)
  · rename_i hm
    exact again .rehomeWheel nofun (by simp [Sequencer.homing, hm])
  · rename_i hm
    exact Keeps.ite (fun _ => stopped (by simp [Sequencer.homing, hm])) fun _ => same
  · exact same

theorem failMotion_keeps (s : State) : Keeps s (failMotion s) := by
  unfold failMotion
  split
  · exact .refl s
  · rename_i axis h
    exact Keeps.ite (fun hleft => retryMotion_keeps h hleft) fun _ => enterFault_keeps h

/-- R67, R82: a motion of the entry in flight says that the entry is moving, outside FAULT, with attempts left. -/
theorem mayMove_of_motion {f : InFlight} {first : Bool} {s : State} (hf : s.seq.inflight = some f) (hm : s.seq.motion.ofEntry) :
    MayMove f first s := by
  obtain ⟨hrest, hcarriage, hwheel⟩ := hm
  rintro ⟨hmoving, hfault, hattempts, -⟩
  refine ⟨?_, ?_, fun _ => hattempts hrest⟩
  · simpa [Sequencer.moving, hf] using hmoving.2 ⟨hrest, by simp [Sequencer.homing, hcarriage, hwheel]⟩
  · exact Bool.eq_false_of_not_eq_true fun h => hrest (hfault h)

theorem settledMotion_keeps (axis : Axis) (s : State) : Keeps s (settledMotion axis s) := by
  unfold settledMotion
  split
  · rename_i f hm hf
    refine Keeps.trans (setSeq_keeps (q := { s.seq with carriage := f.entry.target }) le_rfl id) (afterCarriage_keeps ?_)
    exact mayMove_of_motion hf (by rw [setSeq_seq, hm]; exact ⟨nofun, nofun, nofun⟩)
  · rename_i f _ _
    refine Keeps.ite (fun _ => ?_) fun _ => failMotion_keeps s
    exact Keeps.trans (setSeq_keeps (q := { s.seq with petal := f.petal }) le_rfl id) (completeEntry_keeps ..)
  · exact completeEntry_keeps ..
  · exact .refl s

theorem pulseSeen_keeps (code : Nat) (s : State) : Keeps s (pulseSeen code s) := by
  unfold pulseSeen
  split
  · rename_i pulses hm
    refine setSeq_keeps le_rfl fun hs => ?_
    obtain ⟨hmoving, hfault, hattempts, hmax⟩ := hs
    rw [hm] at hmoving hfault hattempts
    refine ⟨?_, fun hf => absurd (hfault hf) nofun, fun _ => hattempts nofun, hmax⟩
    change s.seq.moving = true ↔ _
    simp [hmoving, Sequencer.homing, hm]
  · rename_i f hm hf
    refine Keeps.trans (setSeq_keeps (q := { s.seq with petal := 0 }) le_rfl id) (turnWheel_keeps ?_)
    exact mayMove_of_motion hf (by rw [setSeq_seq, hm]; exact ⟨nofun, nofun, nofun⟩)
  · rename_i hm
    exact homedWheel_keeps (by simp [Sequencer.homing, hm])
  · exact .refl s

theorem homeSignal_keeps (s : State) : Keeps s (homeSignal s) := by
  unfold homeSignal
  split
  · rename_i hm
    exact homedCarriage_keeps (by simp [Sequencer.homing, hm])
  · rename_i f hm hf
    refine Keeps.trans (setSeq_keeps (q := { s.seq with carriage := 0 }) le_rfl id) (driveCarriage_keeps ?_)
    exact mayMove_of_motion hf (by rw [setSeq_seq, hm]; exact ⟨nofun, nofun, nofun⟩)
  · exact .refl s

/-! ### The print line and the release -/

theorem setPrintLine_keeps (l : Option PrintLine) (s : State) :
    Keeps s { s with comp := { s.comp with printLine := l } } := keeps_comp _ _ id id id id

theorem numberBridged_keeps : ∀ (es : List PrintEntry) (s : State), Keeps s (numberBridged es s).2 := by
  intro es
  induction es with
  | nil => exact fun s => .refl s
  | cons e rest ih =>
    intro s
    simp only [numberBridged]
    split
    · exact (useGroup_keeps s _).trans (ih _)
    · exact ih s

theorem feedReports_keeps (l : PrintLine) (e : PrintEntry) (b : Built) (s : State) : Keeps s (feedReports l e b s) :=
  Keeps.ite (fun _ => report_keeps ..) fun _ => Keeps.ite (fun _ => report_keeps ..) fun _ => .refl s

theorem feedReports_seq (l : PrintLine) (e : PrintEntry) (b : Built) (s : State) : (feedReports l e b s).seq = s.seq := by
  unfold feedReports
  dsimp only
  split
  · exact report_seq ..
  · split
    · exact report_seq ..
    · rfl

theorem printEntries_length (b : Built) (v g : Nat) (pitch : Pitch) (p : Port) :
    (printEntries b v g pitch p).length = b.strikes.length := List.length_map ..

theorem feedOne_keeps {l : PrintLine} {e : PrintEntry} {s : State}
    (h : (buildPrintEntry s.descriptor e).strikes.length ≤ freePlaces s) : Keeps s (feedOne l e s).2 := by
  refine Keeps.trans (feedReports_keeps l e (buildPrintEntry s.descriptor e) s) (place_keeps ?_)
  rwa [printEntries_length, freePlaces, feedReports_seq]

theorem feedEntries_keeps : ∀ (es : List PrintEntry) (l : PrintLine) (s : State), Keeps s (feedEntries es l s).2 := by
  intro es
  induction es with
  | nil => exact fun l s => .refl s
  | cons e rest ih =>
    intro l s
    simp only [feedEntries]
    split
    · exact .refl s
    · rename_i hfits
      exact (feedOne_keeps (not_lt.1 hfits)).trans (ih _ _)

theorem feedPrintLine_keeps (s : State) : Keeps s (feedPrintLine s) := by
  unfold feedPrintLine
  split
  · exact .refl s
  · rename_i l _
    exact (feedEntries_keeps _ l s).trans (setPrintLine_keeps _ _)

theorem closePrintLine_keeps (s : State) : Keeps s (closePrintLine s) := by
  unfold closePrintLine
  split
  · exact .refl s
  · exact Keeps.ite (fun h => (setPrintLine_keeps none s).trans (place_keeps h.2)) fun _ => .refl s

theorem feed_keeps (s : State) : Keeps s (feed s) := (feedPrintLine_keeps s).trans (closePrintLine_keeps _)

theorem releaseReport_keeps (port : Port) (tag : Byte) (l : ComposeLine) (rm : Nat) (layout : Layout) (s : State) :
    Keeps s (releaseReport port tag l rm layout s) := by
  unfold releaseReport
  dsimp only
  split
  · exact report_keeps ..
  · exact report_keeps ..
  · exact .refl s

theorem releaseOpen_keeps (flush : Bool) (tag : Byte) (notify : Bool) (l : ComposeLine) (s : State) :
    Keeps s (releaseOpen flush tag notify l s) :=
  ((((numberBridged_keeps _ s).trans (setPrintLine_keeps _ _)).trans (returnMove_keeps _)).trans
    (releaseReport_keeps ..)).trans (feed_keeps _)

theorem releaseNone_keeps (port : Port) (tag : Byte) (notify : Bool) (s : State) : Keeps s (releaseNone port tag notify s) :=
  ((setPrintLine_keeps _ s).trans (returnMove_keeps _)).trans (feed_keeps _)

theorem release_keeps (flush : Bool) (p : Port) (tag : Byte) (notify : Bool) (s : State) :
    Keeps s (release flush p tag notify s) := by
  unfold release
  split
  · exact releaseOpen_keeps ..
  · exact releaseNone_keeps ..

/-! ### Tries of queued commands -/

/-- Whatever comes of a try, the state it leaves has kept the invariants. -/
def Try.KeepsFrom (s : State) : Try → Prop
  | .wait s' | .refuse s' _ _ | .take s' => Keeps s s'

theorem takePlacing_keeps {s s' : State} {p : Port} {it : QItem} {es : List SEntry} (h : Keeps s s') (hseq : s'.seq = s.seq) :
    (takePlacing s p it es s').KeepsFrom s := by
  unfold takePlacing
  split
  · exact .refl s
  · rename_i hroom
    refine h.trans (place_keeps ?_)
    rw [freePlaces, hseq]
    exact not_lt.1 hroom

theorem takeSetting_keeps {s : State} {p : Port} {it : QItem} {c : Composer} (h : Keeps s { s with comp := c }) :
    (takeSetting s p it c).KeepsFrom s := takePlacing_keeps h rfl

/-- A setting that no invariant speaks of. -/
theorem tryUnranged_keeps {s : State} {p : Port} {it : QItem} {c : Composer}
    (hplaced : s.Placed → State.Placed { s with comp := c }) (hrange : s.comp.InRange → c.InRange)
    (hcount : s.comp.Counted → c.Counted) (hline : c.line = s.comp.line) : (takeSetting s p it c).KeepsFrom s :=
  takeSetting_keeps (keeps_comp s c hplaced hrange hcount fun h l hl => h l (hline ▸ hl))

theorem refuse_keepsFrom (s : State) (r : Reason) (d : RefusalDetail) : (Try.refuse s r d).KeepsFrom s := .refl s

theorem wait_keepsFrom (s : State) : (Try.wait s).KeepsFrom s := .refl s

theorem Try.KeepsFrom.ite {s : State} {c : Prop} [Decidable c] {x y : Try} (hx : c → x.KeepsFrom s) (hy : ¬c → y.KeepsFrom s) :
    (if c then x else y).KeepsFrom s := by
  split
  · exact hx ‹_›
  · exact hy ‹_›

theorem useEntryGroup_keeps (e : Entry) (s : State) : Keeps s (useEntryGroup e s) := by
  unfold useEntryGroup
  cases e.group with
  | none => exact .refl s
  | some g => exact useGroup_keeps s g

theorem useEntryGroup_line (e : Entry) (s : State) : (useEntryGroup e s).comp.line = s.comp.line := by
  unfold useEntryGroup
  cases e.group <;> rfl

theorem useEntryGroup_rm (e : Entry) (s : State) : (useEntryGroup e s).comp.rm = s.comp.rm := by
  unfold useEntryGroup
  cases e.group <;> rfl

theorem openLine_entries (p : Port) (s : State) : (openLine p s).entries = s.entries := by
  unfold openLine State.entries
  cases h : s.comp.line <;> simp [h, freshLine]

theorem openLine_rm (p : Port) (s : State) : (openLine p s).comp.rm = s.comp.rm := by
  unfold openLine
  split <;> rfl

theorem rightBound_le {s : State} (h : s.comp.rm ≤ 1800) : s.comp.rightBound ≤ 1800 := by
  unfold Composer.rightBound Config.travel
  split <;> omega

theorem lineFull_eq_false_iff (s : State) : lineFull s = false ↔ s.entries.length < 200 :=
  decide_eq_false_iff_not.trans not_le

/-- R30, R34: an entry that passes the tests joins the line within the travel. -/
theorem joinLine_keeps {p : Port} {e : Entry} {n : Nat} {s s0 : State} (hs : Keeps s0 s) (hgrant : s.arb.grant = some p)
    (hfull : s.entries.length < 200) (hends : s.comp.rm ≤ 1800 → e.pos + e.width ≤ 1800 ∧ n ≤ 1800) :
    Keeps s0 (addEntry e n (openLine p s)) := by
  refine (hs.trans (openLine_keeps hgrant)).trans (addEntry_keeps fun hp => ⟨?_, hends ?_⟩)
  · rwa [openLine_entries]
  · simpa [openLine_rm] using hp.1.2.2

theorem takeEntry_keeps {p : Port} {e : Entry} {s : State} (hgrant : s.arb.grant = some p) (hfull : lineFull s = false)
    (hmargin : pastMargin s e.width = false) (hpos : e.pos = s.comp.printPoint) : Keeps s (takeEntry p e s) := by
  have fits : s.comp.printPoint + e.width ≤ s.comp.rightBound := by simpa [pastMargin] using hmargin
  refine joinLine_keeps (useEntryGroup_keeps e s) (by simpa using hgrant) ?_ fun hrm => ?_
  · rw [State.entries, useEntryGroup_line]
    exact (lineFull_eq_false_iff s).1 hfull
  · rw [useEntryGroup_rm] at hrm
    have := rightBound_le hrm
    rw [hpos]
    omega

theorem reportLostUnderscore_keeps (p : Port) (g pos : Nat) (lost : Bool) (s : State) :
    Keeps s (reportLostUnderscore p g pos lost s) := by
  unfold reportLostUnderscore
  split
  · exact .refl s
  · rename_i l hl
    have flagged : Keeps s { s with comp := { s.comp with line := some { l with underscoreReported := true } } } := by
      refine keeps_comp s _ (fun hp => ?_) id id fun h l' hl' => ?_
      · have same : s.entries = l.entries := by simp [State.entries, hl]
        refine ⟨hp.1, ⟨hp.2.1.1, hp.2.1.2.1, ?_⟩, hp.2.2⟩
        have := hp.2.1.2.2
        rwa [same] at this
      · cases hl'
        exact h l hl
    exact Keeps.ite (fun _ => flagged.trans (report_keeps ..)) fun _ => .refl s

theorem takeText_keeps {s : State} {p : Port} {it : QItem} {kind : EntryKind} {c : Byte} (hgrant : s.arb.grant = some p)
    (hfull : lineFull s = false) (hmargin : pastMargin s (escapement s.descriptor c) = false) :
    (takeText s p it kind c).KeepsFrom s := by
  unfold takeText
  split
  · exact takePlacing_keeps (takeEntry_keeps hgrant hfull hmargin rfl) (by simp)
  · exact takePlacing_keeps ((takeEntry_keeps hgrant hfull hmargin rfl).trans (reportLostUnderscore_keeps ..)) (by simp)

theorem tryReturnDirect_keeps (s : State) (p : Port) (it : QItem) : (tryReturnDirect s p it).KeepsFrom s :=
  takePlacing_keeps (returnMove_keeps s) (by simp)

theorem trySpace_keeps {s : State} {p : Port} {it : QItem} (hgrant : s.arb.grant = some p) : (trySpace s p it).KeepsFrom s :=
  .ite (fun _ => tryReturnDirect_keeps ..) fun _ => .ite (fun _ => .refl s) fun hfull => .ite (fun _ => .refl s) fun hmargin =>
    takeText_keeps hgrant (Bool.eq_false_of_not_eq_true hfull) (Bool.eq_false_of_not_eq_true hmargin)

theorem tryChar_keeps {s : State} {p : Port} {it : QItem} {c : Byte} (hgrant : s.arb.grant = some p) :
    (tryChar s p it c).KeepsFrom s :=
  .ite (fun _ => trySpace_keeps hgrant) fun _ => .ite (fun _ => .refl s) fun _ => .ite (fun _ => .refl s) fun hfull =>
    .ite (fun _ => .refl s) fun hmargin => .ite (fun _ => .refl s) fun _ =>
      takeText_keeps hgrant (Bool.eq_false_of_not_eq_true hfull) (Bool.eq_false_of_not_eq_true hmargin)

theorem leastPos_mem {ps : List Nat} {n : Nat} (h : leastPos ps = some n) : n ∈ ps := by
  cases ps with
  | nil => cases h
  | cons p ps =>
    obtain rfl : ps.foldl min p = n := Option.some.inj h
    refine List.foldlRecOn (motive := fun n => n ∈ p :: ps) _ _ (List.mem_cons_self ..) fun a ha b hb => ?_
    rcases min_choice a b with hmin | hmin
    · rwa [hmin]
    · rw [hmin]
      exact List.mem_cons_of_mem _ hb

theorem nextStop_spec {s : State} {stop : Nat} (h : nextStop s = some stop) :
    stop ∈ s.comp.tabs ∧ s.comp.printPoint < stop ∧ stop ≤ s.comp.rightBound := by
  simpa using leastPos_mem h

theorem tryTab_keeps {s : State} {p : Port} {it : QItem} (hgrant : s.arb.grant = some p) : (tryTab s p it).KeepsFrom s := by
  refine .ite (fun _ => .refl s) fun hfull => ?_
  split
  · exact .refl s
  · rename_i stop hstop
    obtain ⟨-, hlt, hle⟩ := nextStop_spec hstop
    refine takePlacing_keeps (joinLine_keeps (.refl s) hgrant ?_ fun hrm => ?_) (by simp)
    · exact (lineFull_eq_false_iff s).1 (Bool.eq_false_of_not_eq_true hfull)
    · have := rightBound_le hrm
      simp only [tabEntry]
      omega

theorem tryBackspace_keeps (s : State) (p : Port) (it : QItem) : (tryBackspace s p it).KeepsFrom s :=
  takePlacing_keeps (setPoint_keeps fun hp => (Nat.sub_le _ _).trans hp.2.1.1) rfl

theorem tryMicro_keeps (s : State) (p : Port) (it : QItem) (sel : Nat) : (tryMicro s p it sel).KeepsFrom s := by
  unfold tryMicro
  split
  · exact takePlacing_keeps (setPoint_keeps fun hp => (Nat.sub_le _ _).trans hp.2.1.1) rfl
  · exact takePlacing_keeps (setPoint_keeps fun _ => min_le_left _ _) rfl
  · exact .refl s

theorem setVerticalPosition_keeps {v : Nat} {s : State} (h : s.Placed → v ≤ 1023) :
    Keeps s { s with comp := { s.comp with vpos := v } } :=
  keeps_comp _ _ (fun hp => ⟨hp.1, ⟨hp.2.1.1, h hp, hp.2.1.2.2⟩, hp.2.2⟩) id id id

theorem indexResult_le {down : Bool} {v : Nat} (h : v ≤ 1023) : indexResult down v ≤ 1023 := by
  unfold indexResult
  split
  · exact min_le_left _ _
  · omega

theorem closeLine_vpos (counted : Bool) (s : State) : (closeLine counted s).comp.vpos = s.comp.vpos := by
  unfold closeLine
  split
  · rfl
  · simp

theorem tryIndex_keeps (s : State) (p : Port) (it : QItem) (down : Bool) : (tryIndex s p it down).KeepsFrom s := by
  refine .ite (fun _ => .refl s) fun _ => .ite (fun _ => .refl s) fun _ => takePlacing_keeps ?_ (by simp)
  refine (closeLine_keeps false s).trans (setVerticalPosition_keeps fun hp => indexResult_le ?_)
  have := hp.2.1.2.1
  rwa [closeLine_vpos] at this

/-- The state that a hold test leaves. -/
def HoldVerdict.state : HoldVerdict → State
  | .pass s | .wait s | .refuse s => s

theorem holdTest_keeps (s : State) : Keeps s (holdTest s).state := by
  unfold holdTest
  dsimp only
  split
  · split
    · exact completeLast_keeps s
    · split <;> exact completeLast_keeps s
  · exact .refl s

theorem tryReturnLine_keeps (s : State) (p : Port) (it : QItem) (flush : Bool) : (tryReturnLine s p it flush).KeepsFrom s := by
  refine .ite (fun _ => .refl s) fun _ => ?_
  have tested := holdTest_keeps s
  generalize holdTest s = verdict at tested ⊢
  cases verdict with
  | wait s1 => exact tested
  | refuse s1 => exact tested
  | pass s1 => exact tested.trans (release_keeps ..)

theorem tryReturn_keeps (s : State) (p : Port) (it : QItem) (sel : Nat) : (tryReturn s p it sel).KeepsFrom s := by
  refine .ite (fun _ => .refl s) fun _ => ?_
  split
  · exact tryReturnDirect_keeps ..
  · exact tryReturnLine_keeps ..

theorem tryLiftCharacter_keeps (s : State) (p : Port) (it : QItem) (c : Byte) : (tryLiftCharacter s p it c).KeepsFrom s := by
  refine .ite (fun _ => .refl s) fun _ => ?_
  split
  · exact .refl s
  · refine .ite (fun _ => .refl s) fun _ => takePlacing_keeps ?_ rfl
    exact (useGroup_keeps s _).trans (setPoint_keeps fun hp => (Nat.sub_le _ _).trans hp.2.1.1)

theorem greatestEnd_le {es : List Entry} {n : Nat} (h : ∀ e ∈ es, e.pos + e.width ≤ n) : greatestEnd es ≤ n := by
  refine List.foldlRecOn (motive := fun x => x ≤ n) _ _ (Nat.zero_le n) fun a ha b hb => max_le ha ?_
  obtain ⟨e, he, rfl⟩ := List.mem_map.1 hb
  exact h e he

theorem tryRelocate_keeps (s : State) (p : Port) (it : QItem) : (tryRelocate s p it).KeepsFrom s := by
  refine .ite (fun _ => takePlacing_keeps (.refl s) rfl) fun _ => takePlacing_keeps (setPoint_keeps fun hp => ?_) rfl
  exact greatestEnd_le fun e he => hp.2.1.2.2.2 e (List.mem_filter.1 he).1

/-- R119: with no paper target the take leaves the strike queue alone. -/
theorem takeTargets_seq_of_held {targets : List Candidate} {s : State} (h : targets.filter (fun c => !c.held) = []) :
    (takeTargets targets s).seq = s.seq := by
  simp [takeTargets, h]

theorem correctionNeed_nil (s : State) (p : Port) (it : QItem) : correctionNeed s [] it.notify = (doneMarks p it).length := by
  cases h : it.notify <;> simp [correctionNeed, totalNeed, Config.strikePlaces, doneMarks, h]

theorem takeCorrection_keeps {kind : CorrectionKind} {p : Port} {it : QItem} {targets : List Candidate} {s : State}
    (hleft : LeftOf s.comp.printPoint targets)
    (hroom : correctionNeed s (targets.filter fun c => !c.held) it.notify ≤ correctionRoom s (targets.filter fun c => !c.held)) :
    Keeps s (takeCorrection kind p it targets s) := by
  have taken := takeTargets_keeps hleft
  refine Keeps.ite (fun hpaper => taken.trans (place_keeps ?_)) fun _ => ?_
  · rw [hpaper, correctionNeed_nil s p it] at hroom
    rwa [freePlaces, takeTargets_seq_of_held hpaper]
  · exact (taken.trans (setCorrection_keeps _ _)).trans (correctionWork_keeps _)

theorem tryCorrection_keeps (kind : CorrectionKind) (s : State) (p : Port) (it : QItem) :
    (tryCorrection kind s p it).KeepsFrom s := by
  have left : LeftOf s.comp.printPoint (chooseTargets kind s (targetLookup s)) :=
    fun c hc => targetLookup_left s c (chooseTargets_subset kind s _ hc)
  unfold tryCorrection
  generalize chooseTargets kind s (targetLookup s) = targets at left
  dsimp only
  split
  · exact .refl s
  · refine .ite (fun _ => .refl s) fun _ => .ite (fun _ => .refl s) fun _ => .ite (fun _ => .refl s) fun hroom => ?_
    exact takeCorrection_keeps left (not_lt.1 hroom)

end Sys2Proof.Machine

/-! ## What every event keeps: settings, the outcome of a try, the cascade -/

namespace Sys2Proof.Machine

/-! ### Settings (R40 to R47, R145) -/

theorem badParameter_keepsFrom (s : State) : (badParameter s).KeepsFrom s := .refl s

theorem setBold_keeps (s : State) (p : Port) (b : Bool) : Keeps s { s with comp := s.comp.setBold p b } := by
  cases p <;> exact keeps_comp s _ id id id id

theorem tryBold_keeps (s : State) (p : Port) (it : QItem) (sel : Nat) : (tryBold s p it sel).KeepsFrom s := by
  unfold tryBold
  split
  · exact takeSetting_keeps (setBold_keeps ..)
  · exact takeSetting_keeps (setBold_keeps ..)
  · exact badParameter_keepsFrom s

theorem setUnderline_keeps (s : State) (p : Port) (b : Bool) : Keeps s { s with comp := s.comp.setUnderline p b } := by
  cases p <;> exact keeps_comp s _ id id id id

theorem tryUnderline_keeps (s : State) (p : Port) (it : QItem) (sel : Nat) : (tryUnderline s p it sel).KeepsFrom s := by
  unfold tryUnderline
  split
  · exact takeSetting_keeps (setUnderline_keeps ..)
  · exact takeSetting_keeps (setUnderline_keeps ..)
  · exact badParameter_keepsFrom s

/-- R41: the open line's flag leaves its entries and its port alone. -/
theorem tryMarginRelease_keeps (s : State) (p : Port) (it : QItem) : (tryMarginRelease s p it).KeepsFrom s := by
  refine takeSetting_keeps (keeps_comp s _ (fun hp => ?_) id id fun hg l hl => ?_)
  · obtain ⟨hmargins, hpaper, hstops⟩ := hp
    refine ⟨hmargins, ?_, hstops⟩
    unfold State.OnThePaper State.entries at hpaper ⊢
    cases hline : s.comp.line <;> simpa [hline] using hpaper
  · obtain ⟨l0, hl0, rfl⟩ := Option.map_eq_some_iff.1 hl
    exact hg l0 hl0

theorem tryAlign_keeps (s : State) (p : Port) (it : QItem) (a : Alignment) : (tryAlign s p it a).KeepsFrom s := by
  unfold tryAlign
  split
  · exact .refl s
  · exact tryUnranged_keeps id id id rfl

theorem tryLeftMargin_keeps (s : State) (p : Port) (it : QItem) (pos : Nat) : (tryLeftMargin s p it pos).KeepsFrom s := by
  refine .ite (fun _ => .refl s) fun hin => takeSetting_keeps ?_
  obtain ⟨_, hspan⟩ := not_or.1 hin
  have apart : pos + 120 ≤ s.comp.rm := not_lt.1 hspan
  split
  · exact keeps_comp s _ (fun ⟨hm, hrest⟩ => ⟨⟨hm.1, fun lm hlm => by cases hlm; exact apart, hm.2.2⟩, hrest⟩) id id id
  · exact keeps_comp s _ (fun ⟨hm, hrest⟩ => ⟨⟨apart, hm.2⟩, hrest⟩) id id id

theorem tryRightMargin_keeps (s : State) (p : Port) (it : QItem) (pos : Nat) : (tryRightMargin s p it pos).KeepsFrom s := by
  refine .ite (fun _ => .refl s) fun hin => .ite (fun _ => .refl s) fun _ => takeSetting_keeps ?_
  obtain ⟨htravel, hin⟩ := not_or.1 hin
  obtain ⟨hlm, hpending⟩ := not_or.1 hin
  refine keeps_comp s _ (fun ⟨_, hrest⟩ => ⟨⟨not_lt.1 hlm, fun lm hmem => ?_, not_lt.1 htravel⟩, hrest⟩) id id id
  have hmem : s.comp.pendingLm = some lm := hmem
  rw [hmem] at hpending
  exact not_lt.1 fun hlt => hpending (decide_eq_true hlt)

/-- R45: in a list in order, what is left from the first stop at or right of a position is at or right of it. -/
theorem le_of_mem_dropWhile {pos : Nat} : ∀ {tabs : List Nat}, tabs.Pairwise (· < ·) →
    ∀ t ∈ tabs.dropWhile (fun t => decide (t < pos)), pos ≤ t := by
  intro tabs
  induction tabs with
  | nil => exact fun _ t ht => nomatch ht
  | cons x xs ih =>
    intro hsorted t ht
    obtain ⟨hx, hxs⟩ := List.pairwise_cons.1 hsorted
    by_cases hlt : x < pos
    · rw [List.dropWhile_cons_of_pos (by simpa using hlt)] at ht
      exact ih hxs t ht
    · rw [List.dropWhile_cons_of_neg (by simpa using hlt)] at ht
      rcases List.mem_cons.1 ht with rfl | ht
      · exact not_lt.1 hlt
      · have := hx t ht
        omega

theorem lt_of_mem_takeWhile {pos t : Nat} {tabs : List Nat} (h : t ∈ tabs.takeWhile fun t => decide (t < pos)) : t < pos := by
  simpa using List.mem_takeWhile_imp h

theorem insertStop_perm (pos : Nat) (tabs : List Nat) : (insertStop pos tabs).Perm (pos :: tabs) := by
  unfold insertStop
  conv_rhs => rw [← List.takeWhile_append_dropWhile (p := fun t => decide (t < pos)) (l := tabs)]
  exact List.perm_middle

/-- R45: a stop that is not held yet goes to its place among the stops in order. -/
theorem insertStop_pairwise {pos : Nat} {tabs : List Nat} (hsorted : tabs.Pairwise (· < ·)) (hnew : pos ∉ tabs) :
    (insertStop pos tabs).Pairwise (· < ·) := by
  have beyond : ∀ t ∈ tabs.dropWhile (fun t => decide (t < pos)), pos < t := fun t ht =>
    lt_of_le_of_ne (le_of_mem_dropWhile hsorted t ht) fun same =>
      hnew (same ▸ (List.dropWhile_suffix _).subset ht)
  refine List.pairwise_append.2 ⟨hsorted.sublist (List.takeWhile_sublist _), ?_, fun a ha b hb => ?_⟩
  · exact List.pairwise_cons.2 ⟨beyond, hsorted.sublist (List.dropWhile_sublist _)⟩
  · have left := lt_of_mem_takeWhile ha
    rcases List.mem_cons.1 hb with rfl | hb
    · exact left
    · exact left.trans (beyond b hb)

theorem setTabs_keeps {s : State} {tabs : List Nat} (h : s.StopsInOrder → State.StopsInOrder { s with comp := { s.comp with tabs := tabs } }) :
    Keeps s { s with comp := { s.comp with tabs := tabs } } :=
  keeps_comp s _ (fun ⟨hm, hpaper, hstops⟩ => ⟨hm, hpaper, h hstops⟩) id id id

theorem tryTabSet_keeps (s : State) (p : Port) (it : QItem) (pos : Nat) : (tryTabSet s p it pos).KeepsFrom s := by
  refine .ite (fun _ => takeSetting_keeps (.refl s)) fun hnew => .ite (fun _ => .refl s) fun hroom =>
    .ite (fun _ => .refl s) fun htravel => takeSetting_keeps (setTabs_keeps fun ⟨_, hsorted, hin⟩ => ?_)
  have same := insertStop_perm pos s.comp.tabs
  refine ⟨?_, insertStop_pairwise hsorted hnew, fun t ht => ?_⟩
  · exact same.length_eq.trans_le (not_le.1 hroom)
  · rcases List.mem_cons.1 (same.subset ht) with rfl | ht
    · exact not_lt.1 htravel
    · exact hin t ht

theorem tryTabClear_keeps (s : State) (p : Port) (it : QItem) (pos : Nat) : (tryTabClear s p it pos).KeepsFrom s :=
  .ite (fun _ => .refl s) fun _ => takeSetting_keeps (setTabs_keeps fun ⟨hlen, hsorted, hin⟩ =>
    ⟨(List.length_filter_le _ _).trans hlen, hsorted.sublist List.filter_sublist,
      fun t ht => hin t (List.mem_filter.1 ht).1⟩)

theorem tryTabStop_keeps (s : State) (p : Port) (it : QItem) (sel pos : Nat) : (tryTabStop s p it sel pos).KeepsFrom s := by
  unfold tryTabStop
  split
  · exact tryTabSet_keeps ..
  · exact tryTabClear_keeps ..
  · exact takeSetting_keeps (setTabs_keeps fun _ => ⟨Nat.zero_le _, .nil, nofun⟩)
  · exact badParameter_keepsFrom s

theorem trySpacing_keeps (s : State) (p : Port) (it : QItem) (n : Nat) : (trySpacing s p it n).KeepsFrom s :=
  .ite (fun h => takeSetting_keeps (keeps_comp s _ id (fun hr => ⟨h.1, h.2, hr.2.2⟩) id id)) fun _ => .refl s

theorem tryImpression_keeps (s : State) (p : Port) (it : QItem) (n : Nat) : (tryImpression s p it n).KeepsFrom s := by
  unfold tryImpression
  split
  · exact tryUnranged_keeps id id id rfl
  · exact tryUnranged_keeps id id id rfl
  · exact tryUnranged_keeps id id id rfl
  · exact badParameter_keepsFrom s

theorem tryAutoReturnZone_keeps (s : State) (p : Port) (it : QItem) (n : Nat) : (tryAutoReturnZone s p it n).KeepsFrom s :=
  .ite (fun h => takeSetting_keeps (keeps_comp s _ id (fun ⟨h1, h2, _, h4⟩ => ⟨h1, h2, h, h4⟩) id id)) fun _ => .refl s

theorem tryStretchLimit_keeps (s : State) (p : Port) (it : QItem) (n : Nat) : (tryStretchLimit s p it n).KeepsFrom s :=
  .ite (fun h => takeSetting_keeps (keeps_comp s _ id (fun ⟨h1, h2, h3, _⟩ => ⟨h1, h2, h3, h⟩) id id)) fun _ => .refl s

theorem tryJustify_keeps (s : State) (p : Port) (it : QItem) (n : Nat) : (tryJustify s p it n).KeepsFrom s := by
  unfold tryJustify
  split
  · exact tryUnranged_keeps id id id rfl
  · exact tryUnranged_keeps id id id rfl
  · exact badParameter_keepsFrom s

theorem tryMode_keeps (s : State) (p : Port) (it : QItem) (n : Nat) : (tryMode s p it n).KeepsFrom s := by
  unfold tryMode
  split
  · exact badParameter_keepsFrom s
  · exact .ite (fun _ => .refl s) fun _ => .ite (fun _ => .refl s) fun _ => tryUnranged_keeps id id id rfl

theorem trySpellMode_keeps (s : State) (p : Port) (it : QItem) (n : Nat) : (trySpellMode s p it n).KeepsFrom s := by
  unfold trySpellMode
  split
  · exact badParameter_keepsFrom s
  · exact takePlacing_keeps (setSpellMode_keeps ..) (by simp)

theorem setReports_keeps (s : State) (b : Bool) : Keeps s { s with spell := { s.spell with interfaceReports := b } } :=
  keeps_spell s _ id (fun h h' => ⟨h, h'⟩) id

theorem trySpellReports_keeps (s : State) (p : Port) (it : QItem) (n : Nat) : (trySpellReports s p it n).KeepsFrom s := by
  unfold trySpellReports
  split
  · exact takePlacing_keeps (setReports_keeps s false) rfl
  · exact takePlacing_keeps (setReports_keeps s true) rfl
  · exact badParameter_keepsFrom s

/-! ### The outcome of a try (R26, R28, R173) -/

/-- R172: the command whose queue holds the grant is tried. -/
theorem tryCmd_keeps {s : State} {p : Port} {it : QItem} (hgrant : s.arb.grant = some p) : (tryCmd s p it).KeepsFrom s := by
  unfold tryCmd
  cases it.cmd with
  | char c => exact tryChar_keeps hgrant
  | space => exact trySpace_keeps hgrant
  | tab => exact tryTab_keeps hgrant
  | backspace => exact tryBackspace_keeps ..
  | micro sel => exact tryMicro_keeps ..
  | indexDown => exact tryIndex_keeps ..
  | reverseIndex => exact tryIndex_keeps ..
  | ret sel => exact tryReturn_keeps ..
  | bold sel => exact tryBold_keeps ..
  | underline sel => exact tryUnderline_keeps ..
  | marginRelease => exact tryMarginRelease_keeps ..
  | center => exact tryAlign_keeps ..
  | alignRight => exact tryAlign_keeps ..
  | correct => exact tryCorrection_keeps ..
  | wordCorrect => exact tryCorrection_keeps ..
  | lineCorrect => exact tryCorrection_keeps ..
  | liftCharacter c => exact tryLiftCharacter_keeps ..
  | relocate => exact tryRelocate_keeps ..
  | leftMargin pos => exact tryLeftMargin_keeps ..
  | rightMargin pos => exact tryRightMargin_keeps ..
  | tabStop sel pos => exact tryTabStop_keeps ..
  | spacing n => exact trySpacing_keeps ..
  | impression n => exact tryImpression_keeps ..
  | autoReturnZone n => exact tryAutoReturnZone_keeps ..
  | stretchLimit n => exact tryStretchLimit_keeps ..
  | justify n => exact tryJustify_keeps ..
  | mode n => exact tryMode_keeps ..
  | spellMode n => exact trySpellMode_keeps ..
  | spellReports n => exact trySpellReports_keeps ..

theorem setHeadWaiting_keeps (s : State) (b : Bool) : Keeps s { s with arb := { s.arb with headWaiting := b } } :=
  keeps_arb s _ id fun h h' => ⟨h, h'⟩

theorem popHead_keeps (p : Port) (s : State) : Keeps s (popHead p s) := by
  refine (setInbound_keeps s p ((s.inbound p).drop 1) fun h => ?_).trans (setHeadWaiting_keeps _ false)
  exact (List.drop_sublist 1 _).length_le.trans h

theorem setRefusal_keeps (s : State) (r : Option Reason) : Keeps s { s with comp := { s.comp with lastRefusal := r } } :=
  keeps_comp s _ id id id id

theorem refuse_keeps (p : Port) (it : QItem) (r : Reason) (d : RefusalDetail) (s : State) : Keeps s (refuse p it r d s) :=
  (Keeps.ite (fun _ => setRefusal_keeps s _) fun _ => .refl s).trans (report_keeps ..)

theorem echoTake_keeps (p : Port) (it : QItem) (implied : Bool) (s : State) : Keeps s (echoTake p it implied s) := by
  unfold echoTake
  split
  · split
    · exact report_keeps ..
    · exact .refl s
  · exact .refl s

theorem afterTry_keeps {s : State} {p : Port} {it : QItem} {y : Try} (h : y.KeepsFrom s) : Keeps s (afterTry s p it y) := by
  cases y with
  | wait s' => exact h.trans (setHeadWaiting_keeps s' true)
  | refuse s' r d =>
    exact ((Keeps.trans h (popHead_keeps p s')).trans (refuse_keeps p it r d _)).trans (decideGrant_keeps _)
  | take s' =>
    exact ((Keeps.trans h (popHead_keeps p s')).trans (echoTake_keeps p it _ _)).trans (decideGrant_keeps _)

/-- R170, R172: the head command of the granted queue stands to be tried while no correction, takeover or flush comes before it. -/
theorem head_eq_some_iff {s : State} {p : Port} {it : QItem} : s.head = some (p, it) ↔
    s.arb.grant = some p ∧ s.comp.correction = none ∧ s.arb.takeover = false ∧ s.arb.flushPending = false ∧
      (s.inbound p).head? = some it := by
  unfold State.head
  constructor
  · intro h
    split at h
    · rename_i q hgrant hcorrection htakeover hflush
      obtain ⟨x, hx, heq⟩ := Option.map_eq_some_iff.1 h
      cases heq
      exact ⟨hgrant, hcorrection, htakeover, hflush, hx⟩
    · cases h
  · rintro ⟨hgrant, hcorrection, htakeover, hflush, hx⟩
    rw [hgrant, hcorrection, htakeover, hflush]
    exact Option.map_eq_some_iff.2 ⟨it, hx, rfl⟩

theorem tryHead_keeps (s : State) : Keeps s (tryHead s) := by
  unfold tryHead
  split
  · rename_i p it h
    exact afterTry_keeps (tryCmd_keeps (head_eq_some_iff.1 h).1)
  · exact .refl s

end Sys2Proof.Machine

/-! ## What every event keeps: the cascade and the end of an event -/

namespace Sys2Proof.Machine

theorem directFlush_keeps {s : State} (h : 2 ≤ freePlaces s) : Keeps s (directFlush s) := by
  refine (returnMove_keeps s).trans (place_keeps ?_)
  have same : (returnMove s).seq = s.seq := by simp
  rw [freePlaces, same]
  exact h

theorem directFlush_line (s : State) : (directFlush s).comp.line = none := returnMove_line s

theorem setTakeover_keeps (s : State) (b : Bool) : Keeps s { s with arb := { s.arb with takeover := b } } :=
  keeps_arb s _ id fun h h' => ⟨h, h'⟩

theorem endTakeover_keeps (s s1 : State) : Keeps s1 (endTakeover s s1) := (setTakeover_keeps s1 false).trans (report_keeps ..)

theorem noGrant_keeps {s : State} {a : Arbiter} (hline : s.comp.line = none) (hhold : a.holdTime = s.arb.holdTime) :
    Keeps s { s with arb := a } :=
  keeps_arb s _ (fun _ l hl => by rw [hline] at hl; cases hl) fun h h' => hhold ▸ ⟨h, h'⟩

/-- R182: the flush done, with no line open the grant is given up and decided anew. -/
theorem dropGrant_keeps {s : State} (h : s.comp.line = none) :
    Keeps s (decideGrant { s with arb := { s.arb with flushPending := false, grant := none } }) := by
  have dropped : Keeps s { s with arb := { s.arb with flushPending := false, grant := none } } := noGrant_keeps h rfl
  exact dropped.trans (decideGrant_keeps _)

theorem tryFlush_keeps (s : State) : Keeps s (tryFlush s) := by
  refine Keeps.ite (fun hdue => ?_) fun _ => .refl s
  have hroom : 2 ≤ freePlaces s := by
    simp only [Bool.and_eq_true, decide_eq_true_eq] at hdue
    exact hdue.2
  have flushed := directFlush_keeps hroom
  have ended : Keeps s (if s.arb.takeover then endTakeover s (directFlush s) else directFlush s) :=
    Keeps.ite (fun _ => flushed.trans (endTakeover_keeps s _)) fun _ => flushed
  have closed : (if s.arb.takeover then endTakeover s (directFlush s) else directFlush s).comp.line = none := by
    split <;> simp [directFlush_line]
  exact ended.trans (dropGrant_keeps closed)

theorem setFlush_keeps (s : State) (b : Bool) : Keeps s { s with arb := { s.arb with flushPending := b } } :=
  keeps_arb s _ id fun h h' => ⟨h, h'⟩

theorem tryTakeover_keeps (s : State) : Keeps s (tryTakeover s) := by
  refine Keeps.ite (fun hready => ?_) fun _ => .refl s
  refine Keeps.trans (t := match s.comp.mode with | .direct => directFlush s | .line => release true .interface 0 false s) ?_
    (((endTakeover_keeps s _).trans (setFlush_keeps _ false)).trans (decideGrant_keeps _))
  unfold takeoverReady at hready
  cases hmode : s.comp.mode with
  | direct =>
    rw [hmode, Bool.and_eq_true] at hready
    exact directFlush_keeps (of_decide_eq_true hready.2)
  | line => exact release_keeps ..

theorem retryHead_keeps (s : State) : Keeps s (retryHead s) := Keeps.ite (fun _ => tryHead_keeps s) fun _ => .refl s

theorem onFreed_keeps (s : State) : Keeps s (onFreed s) :=
  ((((feed_keeps s).trans (correctionWork_keeps _)).trans (tryFlush_keeps _)).trans (tryTakeover_keeps _)).trans (retryHead_keeps _)

/-- What a begin test leaves has kept the invariants. -/
def BeginOutcome.KeepsFrom (s : State) : BeginOutcome → Prop
  | .nothing => True
  | .began _ s' => Keeps s s'

theorem beginTest_keeps (s : State) : (beginTest s).KeepsFrom s := by
  unfold beginTest
  split
  · trivial
  · rename_i hidle
    obtain ⟨⟨hfault, -⟩, hmoving⟩ : (s.seq.fault = false ∧ s.seq.homing = false) ∧ s.seq.moving = false := by
      simpa only [Bool.or_eq_true, not_or, Bool.not_eq_true] using hidle
    split
    · split
      · trivial
      · exact startHoming_keeps hfault hmoving
    · split
      · split
        · trivial
        · exact beginEntry_keeps hfault
      · rename_i e rest _ hqueue
        split
        · trivial
        · have shorter : Keeps s (s.setSeq { s.seq with queue := rest }) :=
            setQueue_keeps s rest (by rw [hqueue]; exact Nat.le_succ _)
          exact Keeps.trans shorter (beginEntry_keeps hfault)
      · trivial

theorem settleLoop_keeps : ∀ (fuel : Nat) (freed : Bool) (s : State), Keeps s (settleLoop fuel freed s) := by
  intro fuel
  induction fuel with
  | zero => exact fun _ s => .refl s
  | succ n ih =>
    intro freed s
    have placesGiven : Keeps s (if freed then onFreed s else s) := Keeps.ite (fun _ => onFreed_keeps s) fun _ => .refl s
    have tested := beginTest_keeps (if freed then onFreed s else s)
    simp only [settleLoop]
    generalize (if freed then onFreed s else s) = s1 at placesGiven tested ⊢
    cases h : beginTest s1 with
    | nothing => exact placesGiven
    | began freed' s2 =>
      rw [h] at tested
      exact (placesGiven.trans tested).trans (ih freed' s2)

theorem settle_keeps (freed : Bool) (s : State) : Keeps s (settle freed s) := settleLoop_keeps ..

theorem settleIfQueued_keeps (before after : State) : Keeps after (settleIfQueued before after) :=
  Keeps.ite (fun _ => .refl after) fun _ => settle_keeps false after

theorem timerStep_keeps (before after : State) : Keeps after (timerStep before after) :=
  keeps_arb after _ id fun h h' => ⟨h, h'⟩

theorem rebuildAt_keeps {w : Nat} {s : State} (h : w = s.disp.image.width ∨ w ∈ [16, 20, 24, 32, 40]) : Keeps s (rebuildAt w s) :=
  Keeps.ite (fun _ => .refl s) fun _ => keeps_disp s _ (fun _ => Nat.le_of_lt_succ (Nat.mod_lt _ (by decide))) h

theorem rebuild_keeps (s : State) : Keeps s (rebuild s) := rebuildAt_keeps (.inl rfl)

theorem finish_keeps (before after : State) : Keeps after (finish before after) :=
  (timerStep_keeps before after).trans (rebuild_keeps _)

theorem takeHead_keeps (s : State) : Keeps s (settleIfQueued s (tryHead s)) := (tryHead_keeps s).trans (settleIfQueued_keeps ..)

/-! ## What every event keeps: the immediate commands -/

theorem keeps_of_errors_cleared (s : State) : Keeps s { s with con := s.con.clearErrors, ifl := s.ifl.clearErrors } :=
  (keeps_con s s.con.clearErrors id id id fun h h' => ⟨h, h'⟩).trans
    (keeps_ifl _ s.ifl.clearErrors id id id fun _ _ _ => ⟨Nat.zero_le _, Nat.zero_le _, Nat.zero_le _⟩)

theorem requestHoming_keeps (s : State) : Keeps s (requestHoming s) := setSeq_keeps le_rfl id

theorem resumeOp_keeps (s : State) : Keeps s (resumeOp s).2 := by
  unfold resumeOp
  split
  · exact .refl s
  · exact .refl s
  · exact .refl s
  · exact (requestHoming_keeps s).trans (settle_keeps ..)
  · exact (requestHoming_keeps s).trans (settle_keeps ..)

theorem clearFaultOp_keeps (s : State) : Keeps s (clearFaultOp s).2 := by
  unfold clearFaultOp
  split
  · have left : Keeps s (s.setSeq { s.seq with fault := false, attempts := 0 }) :=
      setSeq_keeps le_rfl fun ⟨hmoving, _, _, _⟩ => ⟨hmoving, nofun, fun _ => Nat.zero_le _, Nat.zero_le _⟩
    exact (left.trans (requestHoming_keeps _)).trans (settle_keeps ..)
  · exact .refl s

theorem continueOp_keeps (s : State) : Keeps s (continueOp s).2 := (leaveHold_keeps ..).trans (settle_keeps ..)

theorem cancelComposeLine_keeps (groups : List Nat) (s : State) : Keeps s (cancelComposeLine groups s) := by
  have removed : Keeps s (s.setEntries (s.entries.filter fun e => !(e.group.any groups.contains))) :=
    setEntries_keeps (entriesWithin_of_sublist List.filter_sublist)
  have gone : ∀ p ∈ (cancelled groups s).map Entry.pos, ∃ e ∈ s.entries, e.pos = p := fun p hp => by
    obtain ⟨e, he, rfl⟩ := List.mem_map.1 hp
    exact ⟨e, (List.mem_filter.1 he).1, rfl⟩
  -- the new print point is bounded through s itself, whose entries the shortened line no longer shows
  have moved : Keeps s (setPoint ((leastPos ((cancelled groups s).map Entry.pos)).getD s.comp.printPoint)
      (s.setEntries (s.entries.filter fun e => !(e.group.any groups.contains)))) := by
    refine { removed with placed := fun hp => ?_ }
    obtain ⟨hmargins, hpaper, hstops⟩ := removed.placed hp
    refine ⟨hmargins, ⟨leastPos_le_of_all hp.2.1.1 fun p hmem => ?_, hpaper.2⟩, hstops⟩
    obtain ⟨e, he, rfl⟩ := gone p hmem
    have := hp.2.1.2.2.2 e he
    omega
  exact moved.trans (respell_keeps _)

theorem cancelPending_keeps (s : State) : Keeps s (cancelPending s) := by
  have emptied : Keeps s (s.setSeq { s.seq with queue := s.seq.queue.filter fun e => !e.isPrint }) :=
    setSeq_keeps (List.length_filter_le _ _) id
  have line : Keeps s (if queuedPrintGroups s = [] then s.setSeq { s.seq with queue := s.seq.queue.filter fun e => !e.isPrint }
      else cancelComposeLine (queuedPrintGroups s) (s.setSeq { s.seq with queue := s.seq.queue.filter fun e => !e.isPrint })) :=
    Keeps.ite (fun _ => emptied) fun _ => emptied.trans (cancelComposeLine_keeps ..)
  exact (line.trans (setPrintLine_keeps _ _)).trans (leaveHold_keeps ..)

theorem acceptCommand_keeps (params : List Byte) (s : State) : Keeps s (acceptCommand params s).2 := by
  unfold acceptCommand
  split
  · exact acceptWords_keeps s
  · exact (learnWords_keeps s.spell.words s).trans (acceptWords_keeps _)
  · exact .refl s

theorem addWordOp_keeps (l : WordList) (letters : List Byte) (s : State) : Keeps s (addWordOp l letters s).2 := by
  unfold addWordOp
  dsimp only
  split
  · exact .refl s
  · split
    · exact .refl s
    · rename_i hnew
      split
      · exact .refl s
      · rename_i hroom
        exact addWord_keeps (fun h => hnew (by simpa using h)) (not_le.1 hroom)

theorem removeWordOp_keeps (l : WordList) (letters : List Byte) (s : State) : Keeps s (removeWordOp l letters s).2 := by
  unfold removeWordOp
  dsimp only
  split
  · exact .refl s
  · split
    · exact removeWord_keeps ..
    · exact .refl s

theorem wordListCommand_keeps (l : WordList) (params : List Byte) (s : State) : Keeps s (wordListCommand l params s).2 := by
  unfold wordListCommand
  split
  · exact addWordOp_keeps ..
  · exact removeWordOp_keeps ..
  · exact .refl s

theorem listClearCommand_keeps (params : List Byte) (s : State) : Keeps s (listClearCommand params s).2 := by
  unfold listClearCommand
  split
  · exact clearList_keeps ..
  · exact clearList_keeps ..
  · exact .refl s

theorem wordCheckOp_keeps (p : Port) (tag : Byte) (letters : List Byte) (s : State) : Keeps s (wordCheckOp p tag letters s).2 := by
  unfold wordCheckOp
  split
  · exact .refl s
  · split
    · exact .refl s
    · rename_i hroom
      exact keeps_words s (Spelling.placeCheck_wordsOnly _ _ _ (not_le.1 hroom))

theorem wordCheckCommand_keeps (p : Port) (tag : Byte) (params : List Byte) (s : State) :
    Keeps s (wordCheckCommand p tag params s).2 := by
  unfold wordCheckCommand
  split
  · exact wordCheckOp_keeps ..
  · exact .refl s

/-! ### The wheel table (R1 to R8) -/

/-- R4: no two of the slots hold one code. -/
theorem codes_nodup_iff (wheels : List (Option Descriptor)) :
    (wheels.filterMap fun o => o.map Descriptor.code).Nodup ↔
      ∀ (i j : Nat) (d d' : Descriptor), wheels[i]? = some (some d) → wheels[j]? = some (some d') → d.code = d'.code → i = j := by
  rw [List.Nodup, List.pairwise_filterMap, List.pairwise_iff_getElem]
  constructor
  · intro h i j d d' hi hj hcode
    obtain ⟨hi, hdi⟩ := List.getElem?_eq_some_iff.1 hi
    obtain ⟨hj, hdj⟩ := List.getElem?_eq_some_iff.1 hj
    rcases Nat.lt_trichotomy i j with hlt | heq | hgt
    · exact absurd hcode (h i j hi hj hlt _ (by simp [hdi]) _ (by simp [hdj]))
    · exact heq
    · exact absurd hcode.symm (h j i hj hi hgt _ (by simp [hdj]) _ (by simp [hdi]))
  · intro h i j hi hj hlt b hb b' hb' heq
    obtain ⟨d, hd, rfl⟩ := Option.map_eq_some_iff.1 hb
    obtain ⟨d', hd', rfl⟩ := Option.map_eq_some_iff.1 hb'
    exact hlt.ne (h i j d d' (List.getElem?_eq_some_iff.2 ⟨hi, hd⟩) (List.getElem?_eq_some_iff.2 ⟨hj, hd'⟩) heq)

/-- R4, R7: a slot written with a whole descriptor whose code no other slot holds. -/
theorem setSlot_keeps {s : State} {t : Nat} {d : Descriptor} 
    (hdescriptor : s.WheelsDistinct → 1 ≤ d.code ∧ d.code ≤ 63 ∧ d.petals.length = 100)
    (hother : s.WheelsDistinct → ∀ (j : Nat) (d' : Descriptor), s.wheels[j]? = some (some d') → d'.code = d.code → j = t) :
    Keeps s { s with wheels := s.wheels.set t (some d) } := by
  refine keeps_wheels s _ fun hw => ⟨by simpa using hw.1, fun e he => ?_, (codes_nodup_iff _).2 fun i j a b ha hb hab => ?_⟩
  · rcases List.mem_or_eq_of_mem_set he with he | heq
    · exact hw.2.1 e he
    · cases heq
      exact hdescriptor hw
  · have unique := (codes_nodup_iff _).1 hw.2.2
    -- what stands in a slot of the new table is the new descriptor there, or what stood in it before
    have stands : ∀ (k : Nat) (c : Descriptor), (s.wheels.set t (some d))[k]? = some (some c) →
        k = t ∧ c = d ∨ k ≠ t ∧ s.wheels[k]? = some (some c) := fun k c hc => by
      rw [List.getElem?_set] at hc
      split at hc
      · rename_i heq
        split at hc
        · cases hc
          exact .inl ⟨heq.symm, rfl⟩
        · cases hc
      · rename_i hne
        exact .inr ⟨Ne.symm hne, hc⟩
    rcases stands i a ha with ⟨rfl, rfl⟩ | ⟨hi, ha'⟩ <;> rcases stands j b hb with ⟨rfl, rfl⟩ | ⟨hj, hb'⟩
    · rfl
    · exact absurd (hother hw j b hb' hab.symm) hj
    · exact absurd (hother hw i a ha' hab) hi
    · exact unique i j a b ha' hb' hab

/-- R4: a slot other than the target of a WHEEL DEFINE does not hold its code. -/
theorem defineTarget_unique {s : State} {slot code : Nat} (hw : s.WheelsDistinct) (j : Nat) (d : Descriptor)
    (hj : s.wheels[j]? = some (some d)) (hcode : d.code = code) : j = defineTarget s.wheels slot code := by
  obtain ⟨hlt, hd⟩ := List.getElem?_eq_some_iff.1 hj
  unfold defineTarget
  cases h : slotOfCode s.wheels code with
  | none =>
    have absent := List.findIdx?_eq_none_iff.1 h (some d) (List.mem_of_getElem? hj)
    simp [hcode] at absent
  | some i =>
    obtain ⟨hi, hheld, -⟩ := List.findIdx?_eq_some_iff_getElem.1 h
    cases hd' : s.wheels[i] with
    | none => simp [hd'] at hheld
    | some d' =>
      have hcode' : d'.code = code := by simpa [hd'] using hheld
      exact (codes_nodup_iff _).1 hw.2.2 j i d d' hj (List.getElem?_eq_some_iff.2 ⟨hi, hd'⟩) (hcode.trans hcode'.symm)

theorem followDescriptor_keeps (before after : State) : Keeps after (followDescriptor before after) := by
  unfold followDescriptor
  split
  · exact joinHold_keeps ..
  · exact (leaveHoldAs_keeps ..).trans (pitchTest_keeps ..)
  · exact .refl after

theorem wheelDefineOp_keeps {slot code : Nat} (pitch : Pitch) (s : State) (hcode : 1 ≤ code ∧ code ≤ 63) :
    Keeps s (wheelDefineOp slot code pitch s).2 := by
  unfold wheelDefineOp
  dsimp only
  split
  · exact .refl s
  · have defined : Keeps s { s with wheels := s.wheels.set (defineTarget s.wheels slot code) (some (clearedDescriptor code pitch)) } :=
      setSlot_keeps (fun _ => ⟨hcode.1, hcode.2, List.length_replicate⟩) fun hw => defineTarget_unique hw
    exact (defined.trans (followDescriptor_keeps s _)).trans (settle_keeps ..)

theorem wheelDefineCommand_keeps (params : List Byte) (s : State) : Keeps s (wheelDefineCommand params s).2 := by
  unfold wheelDefineCommand
  split
  · split
    · split
      · rename_i hrange
        exact wheelDefineOp_keeps _ s hrange.2
      · exact .refl s
    · exact .refl s
  · exact .refl s

theorem writePetal_length (petals : List PetalRec) (f : Nat) (r : PetalRec) : (writePetal petals f r).length = petals.length := by
  simp [writePetal]

theorem writePetals_length : ∀ (rs petals : List PetalRec) (f : Nat), (writePetals petals f rs).length = petals.length := by
  intro rs
  induction rs with
  | nil => exact fun _ _ => rfl
  | cons r rest ih => exact fun petals f => (ih _ _).trans (writePetal_length ..)

/-- R7: the petals written keep a slot's code and the number of its petals. -/
theorem setMap_keeps {s : State} {slot f : Nat} {rs : List PetalRec} {d : Descriptor} (h : s.wheels.getD slot none = some d) :
    Keeps s { s with wheels := s.wheels.set slot (some { d with petals := writePetals d.petals f rs }) } := by
  have hslot : s.wheels[slot]? = some (some d) := by
    rw [List.getD_eq_getElem?_getD] at h
    cases hs : s.wheels[slot]? with
    | none => simp [hs] at h
    | some o => simpa [hs] using h
  refine setSlot_keeps (fun hw => ?_) fun hw j d' hj hcode => (codes_nodup_iff _).1 hw.2.2 j slot d' d hj hslot hcode
  obtain ⟨hlow, hhigh, hlength⟩ := hw.2.1 d (List.mem_of_getElem? hslot)
  exact ⟨hlow, hhigh, (writePetals_length ..).trans hlength⟩

theorem wheelMapCommand_keeps (params : List Byte) (s : State) : Keeps s (wheelMapCommand params s).2 := by
  unfold wheelMapCommand
  split
  · dsimp only
    split
    · split
      · exact .refl s
      · rename_i slot f k records _ _ d hd
        split
        · exact .refl s
        · exact setMap_keeps hd
    · exact .refl s
  · exact .refl s

end Sys2Proof.Machine

/-! ## What every event keeps: the links -/

namespace Sys2Proof.Machine

theorem endContinuous_keeps (s : State) : Keeps s { s with dlink := s.dlink.endContinuous } := keeps_dlink s _

theorem displayWidthCommand_keeps (params : List Byte) (s : State) : Keeps s (displayWidthCommand params s).2 := by
  unfold displayWidthCommand
  split
  · rename_i w
    split
    · rename_i hw
      have isOne : w.toNat ∈ [16, 20, 24, 32, 40] := by simpa [isWidth] using hw
      exact Keeps.trans (Keeps.ite (fun _ => .refl s) fun _ => endContinuous_keeps s) (rebuildAt_keeps (.inr isOne))
    · exact .refl s
  · exact .refl s

theorem setRemoteHold_keeps (s : State) (b : Bool) : Keeps s { s with arb := { s.arb with remoteHold := b } } :=
  keeps_arb s _ id fun h h' => ⟨h, h'⟩

theorem remoteHoldCommand_keeps (params : List Byte) (s : State) : Keeps s (remoteHoldCommand params s).2 := by
  unfold remoteHoldCommand
  split
  · exact setRemoteHold_keeps s true
  · exact (setRemoteHold_keeps s false).trans (decideGrant_keeps _)
  · exact .refl s

theorem holdTimeCommand_keeps (params : List Byte) (s : State) : Keeps s (holdTimeCommand params s).2 := by
  unfold holdTimeCommand
  split
  · split
    · rename_i hrange
      exact keeps_arb s _ id fun _ _ => hrange
    · exact .refl s
  · exact .refl s

theorem attnLevelCommand_keeps (params : List Byte) (s : State) : Keeps s (attnLevelCommand params s).2 := by
  unfold attnLevelCommand
  split
  · split
    · rename_i hrange
      exact keeps_con s _ id id id fun _ _ => hrange
    · exact .refl s
  · exact .refl s

theorem keeps_linkSetting (s : State) {l : InterfaceLink} (hin : l.inbound = s.ifl.inbound) (hrec : l.reports = s.ifl.reports)
    (hcounts : l.framingCount = s.ifl.framingCount ∧ l.parityCount = s.ifl.parityCount ∧ l.overrunCount = s.ifl.overrunCount) :
    Keeps s { s with ifl := l } := by
  obtain ⟨hf, hp, ho⟩ := hcounts
  exact keeps_ifl s l (hin ▸ id) (hrec ▸ id) (hrec ▸ id) fun h h' h'' => ⟨hf ▸ h, hp ▸ h', ho ▸ h''⟩

theorem echoCommand_keeps (params : List Byte) (s : State) : Keeps s (echoCommand params s).2 := by
  unfold echoCommand
  split
  · exact keeps_linkSetting s rfl rfl ⟨rfl, rfl, rfl⟩
  · exact keeps_linkSetting s rfl rfl ⟨rfl, rfl, rfl⟩
  · exact .refl s

theorem linkFormatCommand_keeps (params : List Byte) (s : State) : Keeps s (linkFormatCommand params s).2 := by
  unfold linkFormatCommand
  split
  · split
    · exact keeps_linkSetting s rfl rfl ⟨rfl, rfl, rfl⟩
    · exact .refl s
  · exact .refl s

/-! ### RESET ENGINE -/

theorem forgetRecord_keeps (s : State) : Keeps s { s with ifl := s.ifl.forgetRecord } :=
  keeps_ifl s _ id (fun _ => Nat.zero_le _) (fun _ => Nat.zero_le _) fun h h' h'' => ⟨h, h', h''⟩

theorem emptyInbound_keeps (s : State) (a : Assembly) : Keeps s { s with ifl := { s.ifl with inbound := [], assembly := a } } :=
  keeps_ifl s _ (fun _ => Nat.zero_le _) id id fun h h' h'' => ⟨h, h', h''⟩

theorem emptyConsole_keeps (s : State) : Keeps s { s with con := { s.con with inbound := [], reports := ReportQueue.empty } } :=
  keeps_con s _ (fun _ => Nat.zero_le _) (fun _ => Nat.zero_le _) (fun _ => Nat.zero_le _) fun h h' => ⟨h, h'⟩

theorem resetLinks_keeps (s : State) : Keeps s (resetLinks s) := by
  have emptied : Keeps s { s with
      con := { s.con.clearErrors with inbound := [], reports := ReportQueue.empty }
      ifl := { s.ifl.clearErrors.forgetRecord with inbound := [], assembly := .idle } } :=
    (((keeps_of_errors_cleared s).trans (emptyConsole_keeps _)).trans (forgetRecord_keeps _)).trans (emptyInbound_keeps _ .idle)
  exact emptied.trans (queueRecord_keeps _ .console ⟨.engineReset, 0, true⟩)

/-- R48: the reset composer stands on the LM in force after it. -/
theorem resetComposer_keeps (s : State) : Keeps s { s with comp := s.comp.resetEngine } := by
  refine keeps_comp s _ (fun ⟨⟨hlm, hpending, hrm⟩, _, hstops⟩ => ?_) id (fun h => ⟨h.1, Nat.zero_le _⟩) fun _ => nofun
  have apart : s.comp.pendingLm.getD s.comp.lm + 120 ≤ s.comp.rm := by
    cases h : s.comp.pendingLm with
    | none => exact hlm
    | some lm => exact hpending lm (by simp [h])
  have onPaper : s.comp.pendingLm.getD s.comp.lm ≤ 1800 := by omega
  exact ⟨⟨apart, nofun, hrm⟩, ⟨onPaper, Nat.zero_le _, Nat.zero_le _, nofun⟩, hstops⟩

theorem moving_of_discarded (q : Sequencer) : q.resetEngine.moving = q.moving := by
  unfold Sequencer.resetEngine Sequencer.moving
  cases q.inflight with
  | none => rfl
  | some f => cases h : f.stopped <;> simp [h]

/-- R96: what moves goes on, and a stopped entry is nothing in motion. -/
theorem resetSequencer_keeps (s : State) : Keeps s (s.setSeq s.seq.resetEngine) := by
  refine setSeq_keeps (Nat.zero_le _) fun ⟨hmoving, _, _, _⟩ => ⟨?_, nofun, fun _ => Nat.zero_le _, Nat.zero_le _⟩
  change s.seq.resetEngine.moving = true ↔ _
  rw [moving_of_discarded]
  exact hmoving

theorem resetSpelling_keeps (s : State) : Keeps s { s with spell := s.spell.resetEngine } :=
  keeps_spell s _ (fun h => (dropChecks_length_le _ _).trans h) (fun h h' => ⟨h, h'⟩) id

theorem resetArbiter_keeps {s : State} (h : s.comp.line = none) : Keeps s { s with arb := s.arb.resetEngine } := noGrant_keeps h rfl

theorem resetEngine_keeps (s : State) : Keeps s (resetEngine s) := by
  have composed := (resetLinks_keeps s).trans (resetComposer_keeps _)
  have granted := composed.trans (resetArbiter_keeps rfl)
  have sequenced := granted.trans (resetSequencer_keeps _)
  exact ((sequenced.trans (clearMemory_keeps _)).trans (resetSpelling_keeps _)).trans (leaveHold_keeps ..)

/-! ### Immediate commands by code -/

theorem immediate_keeps (code : Byte) (p : Port) (tag : Byte) (params : List Byte) (s : State) :
    Keeps s (immediate code p tag params s).2 := by
  unfold immediate
  split
  · exact wordCheckCommand_keeps ..
  · exact echoCommand_keeps ..
  · exact linkFormatCommand_keeps ..
  · unfold peekOp; split <;> exact .refl s
  · unfold takeOp; split <;> exact .refl s
  · exact keeps_of_errors_cleared s
  · exact resumeOp_keeps s
  · exact clearFaultOp_keeps s
  · exact continueOp_keeps s
  · exact (cancelPending_keeps s).trans (settle_keeps ..)
  · exact acceptCommand_keeps ..
  · exact wordListCommand_keeps ..
  · exact wordListCommand_keeps ..
  · exact listClearCommand_keeps ..
  · exact wheelDefineCommand_keeps ..
  · exact wheelMapCommand_keeps ..
  · exact displayWidthCommand_keeps ..
  · exact remoteHoldCommand_keeps ..
  · exact holdTimeCommand_keeps ..
  · exact attnLevelCommand_keeps ..
  · exact (resetEngine_keeps s).trans (settle_keeps ..)
  · exact .refl s

/-! ### The console link -/

theorem keeps_consoleTxn (s : State) {c : ConsoleLink} (hin : c.inbound = s.con.inbound)
    (hrec : c.reports.records.length ≤ s.con.reports.records.length) (hlost : c.reports.lost = s.con.reports.lost)
    (hattn : c.attnLevel = s.con.attnLevel) : Keeps s { s with con := c } :=
  keeps_con s c (hin ▸ id) hrec.trans (hlost ▸ id) fun h h' => hattn ▸ ⟨h, h'⟩

theorem frameArrives_keeps (code tag : Byte) (notify : Bool) (params : List Byte) (s : State) :
    Keeps s (frameArrives code tag notify params s).2 := by
  unfold frameArrives
  split
  · exact .refl s
  · split
    · exact .refl s
    · split
      · unfold consoleQueued
        split
        · rename_i hroom
          exact enqueue_keeps _ _ _ hroom
        · exact .refl s
      · exact immediate_keeps ..

theorem consoleFrame_keeps (code tag : Byte) (notify : Bool) (params : List Byte) (s : State) :
    Keeps s (consoleFrame code tag notify params s) := by
  have opened : Keeps s (openTxn s) := keeps_consoleTxn s rfl le_rfl rfl rfl
  exact (opened.trans (frameArrives_keeps code tag notify params _)).trans (keeps_consoleTxn _ rfl le_rfl rfl rfl)

theorem releaseSelect_keeps (moment : ReleaseMoment) (s : State) : Keeps s { s with con := releaseSelect moment s.con } := by
  unfold releaseSelect
  split <;> exact keeps_consoleTxn s rfl le_rfl rfl rfl

theorem overrunSelect_keeps (s : State) : Keeps s { s with con := s.con.overrunSelect } := keeps_consoleTxn s rfl le_rfl rfl rfl

theorem lastByteClocked_keeps (s : State) : Keeps s { s with con := lastByteClocked s.con } := by
  unfold lastByteClocked
  split
  · exact keeps_consoleTxn s rfl (List.drop_sublist 1 _).length_le rfl rfl
  · exact .refl s

/-! ### The interface link -/

theorem beginFrame_keeps {s : State} {l : InterfaceLink} (h : Keeps s { s with ifl := l }) : Keeps s { s with ifl := l.beginFrame } := by
  obtain ⟨x, hx⟩ := beginFrame_cases l
  rw [hx]
  exact h.trans (keeps_linkSetting _ rfl rfl ⟨rfl, rfl, rfl⟩)

theorem frameEnd_keeps (s : State) : Keeps s { s with ifl := s.ifl.frameEnd } := by
  unfold InterfaceLink.frameEnd
  split
  · exact .refl s
  · refine beginFrame_keeps (keeps_ifl s _ id (fun h => ?_) id fun h h' h'' => ⟨h, h', h''⟩)
    dsimp only
    split
    · exact (List.drop_sublist 1 _).length_le.trans h
    · exact h

theorem noteError_keeps (e : LinkError) (s : State) : Keeps s { s with ifl := s.ifl.noteError e } := by
  cases e with
  | framing => exact keeps_ifl s _ id id id fun _ h' h'' => ⟨min_le_left .., h', h''⟩
  | parity => exact keeps_ifl s _ id id id fun h _ h'' => ⟨h, min_le_left .., h''⟩
  | overrun => exact keeps_ifl s _ id id id fun h h' _ => ⟨h, h', min_le_left ..⟩

theorem linkError_keeps (e : LinkError) (s : State) : Keeps s (linkError e s) :=
  Keeps.ite (fun _ => noteError_keeps e s) fun _ => (noteError_keeps e s).trans (report_keeps ..)

theorem resetInterfaceLink_keeps (s : State) : Keeps s (resetInterfaceLink s) := by
  have cleared : Keeps s { s with ifl := s.ifl.clearErrors } :=
    keeps_ifl s _ id id id fun _ _ _ => ⟨Nat.zero_le _, Nat.zero_le _, Nat.zero_le _⟩
  have linked := (cleared.trans (forgetRecord_keeps _)).trans (emptyInbound_keeps _ .idle)
  have composed := linked.trans (keeps_comp _ { s.comp with
    interfaceBold := false, interfaceUnderline := false
    correction := s.comp.correction.filter fun c => c.port != .interface } id id id id)
  have spelt := composed.trans
    (keeps_spell _ s.spell.resetInterface (fun h => (dropChecks_length_le _ _).trans h) (fun h h' => ⟨h, h'⟩) id)
  exact spelt.trans (keeps_arb _ { s.arb with
    takeover := false, timer := none, headWaiting := s.arb.headWaiting && s.arb.grant != some .interface } id fun h h' => ⟨h, h'⟩)

theorem discardLine_keeps (s : State) : Keeps s (discardLine s) :=
  (closeLine_keeps false s).trans (setPoint_keeps fun ⟨⟨hlm, _, hrm⟩, _⟩ => by omega)

theorem resetOpenLine_keeps (s : State) : Keeps s (resetOpenLine s).2 := by
  unfold resetOpenLine
  split
  · split
    · exact .refl s
    · split
      · exact (setFlush_keeps s true).trans (tryFlush_keeps _)
      · exact discardLine_keeps s
  · exact .refl s

/-- R182: an implied RETURN FLUSH is carried out, its line closed with it, or goes on waiting. -/
theorem tryFlush_line_or_pending (s : State) (h : s.arb.flushPending = true) :
    (tryFlush s).comp.line = none ∨ (tryFlush s).arb.flushPending = true := by
  unfold tryFlush
  split
  · left
    simp only [decideGrant_comp]
    split <;> simp [directFlush_line]
  · exact .inr h

/-- R182: the interface's line is gone after the reset, unless an implied RETURN FLUSH waits with it. -/
theorem resetOpenLine_line {s : State} (hg : (resetOpenLine s).2.LineGranted) (hgrant : (resetOpenLine s).2.arb.grant = some .interface)
    (hflush : (resetOpenLine s).2.arb.flushPending = false) : (resetOpenLine s).2.comp.line = none := by
  unfold resetOpenLine at hg hgrant hflush ⊢
  split at hg
  · rename_i hopen
    rw [if_pos hopen] at hflush ⊢
    split at hflush
    · rename_i hpending
      exact absurd hflush (by simpa using hpending)
    · rename_i hpending
      rw [if_neg hpending]
      cases hmode : s.comp.mode with
      | direct =>
        simp only [hmode] at hflush ⊢
        rcases tryFlush_line_or_pending { s with arb := { s.arb with flushPending := true } } rfl with hline | hwaits
        · exact hline
        · exact absurd (hflush.symm.trans hwaits) nofun
      | line => exact closeLine_line false s
  · rename_i hnone
    rw [if_neg hnone] at hgrant ⊢
    cases hline : s.comp.line with
    | none => rfl
    | some l =>
      have port : some Port.interface = some l.port := hgrant.symm.trans (hg l hline)
      exact absurd (by simp [hline, ← Option.some.inj port]) hnone

theorem resetGrant_keeps {s : State} (h : s.LineGranted → s.arb.grant = some .interface → s.arb.flushPending = false → s.comp.line = none) :
    Keeps s (resetGrant s) := by
  refine Keeps.ite (fun hdue => ?_) fun _ => .refl s
  have dropped : Keeps s { s with arb := { s.arb with grant := none } } :=
    keeps_arb s _ (fun hg l hl => by rw [h hg hdue.1 hdue.2] at hl; cases hl) fun h h' => ⟨h, h'⟩
  exact dropped.trans (decideGrant_keeps _)

theorem interfaceReset_keeps (cause : ResetCause) (s : State) : Keeps s (interfaceReset cause s) := by
  have line := (resetInterfaceLink_keeps s).trans (resetOpenLine_keeps _)
  have granted := line.trans (resetGrant_keeps fun hg hgrant hflush => resetOpenLine_line hg hgrant hflush)
  exact (granted.trans (report_keeps ..)).trans (settleIfQueued_keeps s _)

theorem setAssembly_keeps (a : Assembly) (s : State) : Keeps s (setAssembly a s) := keeps_linkSetting s rfl rfl ⟨rfl, rfl, rfl⟩

theorem sequenceArrives_keeps (code tag : Byte) (notify : Bool) (params : List Byte) {s : State} (h : s.ifl.inbound.length < 48) :
    Keeps s (sequenceArrives code tag notify params s) := by
  unfold sequenceArrives
  split
  · exact .refl s
  · exact report_keeps ..
  · split
    · exact enqueue_keeps .interface _ s h
    · exact .refl s
  · have done := immediate_keeps code .interface tag params s
    split
    · rename_i heq
      rw [heq] at done
      exact done.trans (report_keeps ..)
    · rename_i heq
      rw [heq] at done
      exact done

theorem streamByte_keeps (b : Byte) {s : State} (h : s.ifl.inbound.length < 48) : Keeps s (streamByte b s) := by
  refine Keeps.ite (fun _ => setAssembly_keeps ..) fun _ => Keeps.ite (fun _ => setAssembly_keeps ..) fun _ => ?_
  split
  · exact enqueue_keeps .interface _ s h
  · exact .refl s

theorem codeByte_keeps (notify : Bool) (b : Byte) (s : State) : Keeps s (codeByte notify b s) := by
  refine Keeps.ite (fun _ => (setAssembly_keeps ..).trans (interfaceReset_keeps ..)) fun _ => ?_
  split <;> exact setAssembly_keeps ..

theorem bodyByte_keeps (notify : Bool) (code : Byte) (got : List Byte) (b : Byte) {s : State} (h : s.ifl.inbound.length < 48) :
    Keeps s (bodyByte notify code got b s) := by
  unfold bodyByte
  split
  · split
    · exact (setAssembly_keeps ..).trans (sequenceArrives_keeps _ _ _ _ h)
    · exact setAssembly_keeps ..
  · exact .refl s

theorem decodeByte_keeps (f : LineFormat) (b : Byte) {s : State} (h : s.ifl.inbound.length < 48) : Keeps s (decodeByte f b s) := by
  unfold decodeByte
  split
  · exact streamByte_keeps b h
  · exact codeByte_keeps ..
  · split
    · exact (setAssembly_keeps ..).trans (report_keeps ..)
    · exact setAssembly_keeps ..
    · exact (setAssembly_keeps ..).trans (streamByte_keeps b h)
  · split
    · exact bodyByte_keeps _ _ _ _ h
    · exact setAssembly_keeps ..
    · exact (setAssembly_keeps ..).trans (streamByte_keeps b h)

theorem receive_keeps (rx : RxFrame) (s : State) : Keeps s (receive rx s) := by
  refine Keeps.ite (fun _ => .refl s) fun _ => Keeps.ite (fun _ => linkError_keeps ..) fun _ =>
    Keeps.ite (fun _ => linkError_keeps ..) fun _ => Keeps.ite (fun _ => linkError_keeps ..) fun hroom => ?_
  exact decodeByte_keeps _ _ (not_le.1 hroom)

theorem setBreak_keeps (s : State) (b : Bool) : Keeps s { s with ifl := { s.ifl with inBreak := b } } :=
  keeps_linkSetting s rfl rfl ⟨rfl, rfl, rfl⟩

theorem breakDetected_keeps (s : State) : Keeps s (breakDetected s) :=
  Keeps.ite (fun _ => .refl s) fun _ => (setBreak_keeps s true).trans (interfaceReset_keeps ..)

theorem commandArrives_keeps (code : Byte) (a : Arrival) (params : List Byte) (s : State) :
    Keeps s (commandArrives code a params s) := by
  unfold commandArrives
  split
  · exact consoleFrame_keeps ..
  · refine Keeps.ite (fun _ => .refl s) fun _ => Keeps.ite (fun _ => linkError_keeps ..) fun hroom => ?_
    exact Keeps.ite (fun _ => sequenceArrives_keeps _ _ _ _ (not_le.1 hroom)) fun _ => .refl s

end Sys2Proof.Machine

/-! ## What every event keeps: the rows -/

namespace Sys2Proof.Machine

/-! ### The display at the end of an event (R155 to R159) -/

/-- R156: a window placed for a cursor stays where it is for the same cursor. -/
theorem windowFirst_again {w : Nat} (hw : 0 < w) (f c : Nat) : windowFirst w (windowFirst w f c) c = windowFirst w f c :=
  windowFirst_of_within (cursor_in_window hw f c).2 (cursor_in_window hw f c).1

/-- R159: an image just built is what the next rebuild would make. -/
theorem buildImage_again {w : Nat} (hw : 0 < w) (s : State) (g : Nat) (attn : Bool) :
    buildImage w { s with disp := ⟨{ buildImage w s with generation := g }, attn⟩ } = { buildImage w s with generation := g } := by
  change Image.mk w (windowFirst w (windowFirst w s.disp.image.first s.cursor) s.cursor)
    ((List.range w).map (windowCell (cellEntries s) (windowFirst w (windowFirst w s.disp.image.first s.cursor) s.cursor) s.cursor))
    (statusRecord s (cellEntries s).length) g = _
  rw [windowFirst_again hw]
  rfl

theorem pos_of_width {w : Nat} (h : w ∈ [16, 20, 24, 32, 40]) : 0 < w := by
  simp only [List.mem_cons, List.not_mem_nil, or_false] at h
  omega

theorem rebuild_current {s : State} (hw : s.disp.image.width ∈ [16, 20, 24, 32, 40]) :
    (rebuild s).DisplayCurrent ∧ (rebuild s).CursorInView := by
  have positive := pos_of_width hw
  have sameWidth : (rebuild s).disp.image.width = s.disp.image.width := by
    obtain ⟨g, himage⟩ := rebuildAt_image s.disp.image.width s
    rw [rebuild, himage]
    rfl
  refine ⟨?_, ?_⟩
  · unfold State.DisplayCurrent
    rw [sameWidth, rebuild]
    by_cases h : buildImage s.disp.image.width s = s.disp.image
    · rw [rebuildAt_same _ s h]
      exact h
    · rw [rebuildAt_new _ s h]
      exact buildImage_again positive s _ _
  · have cursor : (rebuild s).cursor = s.cursor := by simp [State.cursor, cellEntries, State.entries]
    have first : (rebuild s).disp.image.first = windowFirst s.disp.image.width s.disp.image.first s.cursor := rebuildAt_first ..
    unfold State.CursorInView
    rw [sameWidth, cursor, first]
    exact ⟨hw, cursor_in_window positive _ _⟩

/-! ### The timer at the end of an event (R176) -/

theorem finish_timer (s u : State) (h : (finish s u).arb.timer ≠ none) : (finish s u).TimerConditions := by
  have timer : (finish s u).arb.timer = timerAfter s u := by simp [finish, timerStep]
  have same : (finish s u).TimerConditions ↔ u.TimerConditions := by simp [State.TimerConditions, finish, timerStep]
  rw [same, ← timerRuns_iff]
  rw [timer, timerAfter] at h
  exact Bool.of_not_eq_false fun hstopped => h (by simp [hstopped])

/-! ### Power-on release -/

theorem foldl_add_bounded : ∀ (rs : List Record) (q : ReportQueue), q.records.length ≤ 32 → q.lost ≤ 255 →
    (rs.foldl ReportQueue.add q).records.length ≤ 32 ∧ (rs.foldl ReportQueue.add q).lost ≤ 255 := by
  intro rs
  induction rs with
  | nil => exact fun q h h' => ⟨h, h'⟩
  | cons r rest ih => exact fun q h h' => ih _ (q.add_records_le r h) (q.add_lost_le r h')

theorem powerOnReports_bounded (q : Sequencer) : (powerOnReports q).records.length ≤ 32 ∧ (powerOnReports q).lost ≤ 255 :=
  foldl_add_bounded _ _ (Nat.zero_le _) (Nat.zero_le _)

/-- R48, R95, R131, R152, R197: the power-on values are within every bound. -/
theorem powerOn_meets (x : Sensors) (s : State) :
    (powerOn x s).QueuesBounded ∧ (powerOn x s).MemoryBounded ∧ (powerOn x s).Placed ∧ (powerOn x s).WheelsDistinct ∧
      (powerOn x s).ListsDisjoint ∧ (powerOn x s).SettingsInRange ∧ (powerOn x s).CountersInRange ∧
      (powerOn x s).MechanismSound ∧ (powerOn x s).LineGranted := by
  refine ⟨?_, ⟨Nat.zero_le _, Nat.zero_le _, .nil⟩, ?_, ?_, ⟨Nat.zero_le _, Nat.zero_le _, .nil, .nil, nofun⟩, ?_, ?_, ?_, nofun⟩
  · exact ⟨Nat.zero_le _, Nat.zero_le _, (powerOnReports_bounded _).1, Nat.zero_le _, Nat.zero_le _, Nat.zero_le _⟩
  · have reset : State.reset.MarginsApart ∧ State.reset.OnThePaper ∧ State.reset.StopsInOrder :=
      ⟨⟨by decide, nofun, by decide⟩, ⟨by decide, by decide, by decide, nofun⟩, by decide, .nil, nofun⟩
    exact reset
  · exact ⟨rfl, fun d hd => absurd (List.eq_of_mem_replicate hd) nofun, .nil⟩
  · exact ⟨le_rfl, (by decide : 2 ≤ 6), Nat.zero_le _, (by decide : 24 ≤ 60), (by decide : 1 ≤ 10), (by decide : 10 ≤ 60), le_rfl,
      (by decide : 1 ≤ 32)⟩
  · exact ⟨⟨le_rfl, (by decide : 1 ≤ 65535)⟩, Nat.zero_le _, ⟨le_rfl, (by decide : 1 ≤ 255)⟩, Nat.zero_le _,
      (powerOnReports_bounded _).2, Nat.zero_le _, Nat.zero_le _, Nat.zero_le _, Nat.zero_le _⟩
  · refine ⟨?_, nofun, fun _ => Nat.zero_le _, Nat.zero_le _⟩
    change false = true ↔ (if x.coverOpen then Motion.rest else .homeCarriage) ≠ .rest ∧
      ((if x.coverOpen then Motion.rest else .homeCarriage) == .homeCarriage ||
        (if x.coverOpen then Motion.rest else .homeCarriage) == .homeWheel) = false
    cases x.coverOpen <;> decide

theorem powerOn_keeps (x : Sensors) (s : State) : Keeps s (powerOn x s) := by
  obtain ⟨queues, memory, placed, wheels, lists, settings, counters, mechanism, granted⟩ := powerOn_meets x s
  exact ⟨fun _ => queues, fun _ => memory, fun _ => placed, fun _ => wheels, fun _ => lists, fun _ => settings, fun _ => counters,
    fun _ => mechanism, fun _ => granted, .inr (by decide : 32 ∈ [16, 20, 24, 32, 40])⟩

/-! ### Every row -/

/-- R154, R155, R158, R176: what the display and the timer's conditions are made of. -/
def State.SameShown (s t : State) : Prop :=
  t.comp = s.comp ∧ t.arb = s.arb ∧ t.seq = s.seq ∧ t.spell = s.spell ∧ t.con.inbound = s.con.inbound ∧
    t.ifl.inbound = s.ifl.inbound ∧ t.disp.image = s.disp.image

/-- What a row leaves: the power-on values; the end of an event that kept the invariants; or, of a row of a link, what changes nothing
shown. -/
inductive RowLeaves (s : State) : State → Prop
  | powerOn (x : Sensors) : RowLeaves s (powerOn x s)
  | finished {u : State} (h : Keeps s u) : RowLeaves s (finish s u)
  | quiet {t : State} (h : Keeps s t) (same : s.SameShown t) : RowLeaves s t

theorem RowLeaves.keeps {s t : State} (h : RowLeaves s t) : Keeps s t := by
  cases h with
  | powerOn x => exact powerOn_keeps x s
  | finished h => exact h.trans (finish_keeps s _)
  | quiet h same => exact h

theorem RowLeaves.refl (s : State) : RowLeaves s s := .quiet (.refl s) ⟨rfl, rfl, rfl, rfl, rfl, rfl, rfl⟩

/-- A row of the display link changes the link unit, and ATTN. -/
theorem displayRow_leaves (s : State) (l : DisplayLink) (attn : Bool) :
    RowLeaves s { s with dlink := l, disp := { s.disp with attn := attn } } :=
  .quiet ((keeps_dlink s l).trans (keeps_disp _ _ id (.inl rfl))) ⟨rfl, rfl, rfl, rfl, rfl, rfl, rfl⟩

theorem consoleRow_leaves {s : State} {c : ConsoleLink} (h : Keeps s { s with con := c }) (hin : c.inbound = s.con.inbound) :
    RowLeaves s { s with con := c } := .quiet h ⟨rfl, rfl, rfl, rfl, hin, rfl, rfl⟩

theorem interfaceRow_leaves {s : State} {l : InterfaceLink} (h : Keeps s { s with ifl := l }) (hin : l.inbound = s.ifl.inbound) :
    RowLeaves s { s with ifl := l } := .quiet h ⟨rfl, rfl, rfl, rfl, rfl, hin, rfl⟩

theorem takeRow_leaves (s : State) (mine : QCmd → Bool) : RowLeaves s (takeRow mine s) := by
  unfold takeRow
  split
  · split
    · exact .finished (takeHead_keeps s)
    · exact .refl s
  · exact .refl s

theorem frameEnd_inbound (l : InterfaceLink) : l.frameEnd.inbound = l.inbound := by
  unfold InterfaceLink.frameEnd
  split
  · rfl
  · rw [beginFrame_inbound_eq]

theorem afterSignal_keeps {s u : State} (h : Keeps s u) : Keeps s (afterSignal s u) := h.trans (settle_keeps ..)

theorem searchExpiryEvent_keeps (s : State) : Keeps s (searchExpiryEvent s) :=
  Keeps.ite (fun h => afterSignal_keeps (indexNotFound_keeps (by simp [Sequencer.homing, h]))) fun _ => .refl s

theorem sensorLeaves_keeps (h : Hold) (s : State) : Keeps s (sensorLeaves h s) := (leaveHold_keeps h s).trans (settle_keeps ..)

theorem coverOpened_keeps (s : State) : Keeps s (coverOpened s) :=
  (Keeps.ite (fun _ => requestHoming_keeps s) fun _ => .refl s).trans (joinHold_keeps ..)

theorem coverClosed_keeps (s : State) : Keeps s (coverClosed s) :=
  ((requestHoming_keeps s).trans (leaveHold_keeps ..)).trans (settle_keeps ..)

theorem checkEvent_keeps (s : State) : Keeps s (checkEvent s) :=
  ((completeCheck_keeps s).trans (Keeps.ite (fun _ => tryHead_keeps _) fun _ => .refl _)).trans (settleIfQueued_keeps ..)

theorem timerExpiry_keeps (s : State) : Keeps s (timerExpiry s) :=
  Keeps.ite (fun _ => keeps_arb s _ id fun h h' => ⟨h, h'⟩) fun _ => .refl s

theorem placementEvent_keeps {f : State → State} {s : State} (h : Keeps s (f s)) : Keeps s (placementEvent f s) :=
  h.trans (settle_keeps ..)

/-- Every row of the table, in every state. -/
theorem exec_leaves (i : Instr) (s : State) : ∃ t, exec i s = .next t ∧ RowLeaves s t := by
  cases i
  case powerOnRelease x => exact ⟨_, rfl, .powerOn x⟩
  case queuedCommandArrival f => exact ⟨_, rfl, .finished (consoleFrame_keeps ..)⟩
  case consoleSelectRelease moment =>
    refine ⟨_, rfl, consoleRow_leaves (releaseSelect_keeps moment s) ?_⟩
    unfold releaseSelect
    split <;> rfl
  case consoleOverrun => exact ⟨_, rfl, consoleRow_leaves (overrunSelect_keeps s) rfl⟩
  case interfaceByte rx => exact ⟨_, rfl, .finished (receive_keeps rx s)⟩
  case breakDetected => exact ⟨_, rfl, .finished (breakDetected_keeps s)⟩
  case impliedReturnFlush => exact ⟨_, rfl, .finished (placementEvent_keeps (tryFlush_keeps s))⟩
  case txreadyAsserted level =>
    exact ⟨_, rfl, interfaceRow_leaves (beginFrame_keeps (keeps_linkSetting s rfl rfl ⟨rfl, rfl, rfl⟩)) (beginFrame_inbound_eq _)⟩
  case reportFrameEnd => exact ⟨_, rfl, interfaceRow_leaves (frameEnd_keeps s) (frameEnd_inbound _)⟩
  case displaySelect => exact ⟨_, rfl, displayRow_leaves s _ s.disp.attn⟩
  case windowFetch =>
    change ∃ t, execWindowFetch s = .next t ∧ _
    unfold execWindowFetch
    split
    · exact ⟨_, rfl, displayRow_leaves s _ s.disp.attn⟩
    · exact ⟨_, rfl, .refl s⟩
  case windowFetchParameter param => exact ⟨_, rfl, displayRow_leaves s _ s.disp.attn⟩
  case continueFetch first =>
    change ∃ t, execContinueFetch first s = .next t ∧ _
    unfold execContinueFetch
    split
    · exact ⟨_, rfl, displayRow_leaves s _ s.disp.attn⟩
    · exact ⟨_, rfl, .refl s⟩
  case statusFetch =>
    change ∃ t, execStatusFetch s = .next t ∧ _
    unfold execStatusFetch
    split
    · exact ⟨_, rfl, displayRow_leaves ..⟩
    · exact ⟨_, rfl, .refl s⟩
  case stopFetch =>
    change ∃ t, execStopFetch s = .next t ∧ _
    unfold execStopFetch
    split
    · exact ⟨_, rfl, displayRow_leaves s _ s.disp.attn⟩
    · exact ⟨_, rfl, .refl s⟩
  case displayNoCommand first =>
    change ∃ t, execDisplayNoCommand first s = .next t ∧ _
    unfold execDisplayNoCommand
    split
    · exact ⟨_, rfl, displayRow_leaves s _ s.disp.attn⟩
    · exact ⟨_, rfl, .refl s⟩
  case displaySelectRelease => exact ⟨_, rfl, displayRow_leaves s _ s.disp.attn⟩
  case settledSignal axis => exact ⟨_, rfl, .finished (afterSignal_keeps (settledMotion_keeps axis s))⟩
  case motionLimitExpiry => exact ⟨_, rfl, .finished (afterSignal_keeps (failMotion_keeps s))⟩
  case indexPulse hubCode => exact ⟨_, rfl, .finished (afterSignal_keeps (pulseSeen_keeps hubCode.val s))⟩
  case carriageHome => exact ⟨_, rfl, .finished (afterSignal_keeps (homeSignal_keeps s))⟩
  case indexSearchExpiry => exact ⟨_, rfl, .finished (searchExpiryEvent_keeps s)⟩
  case coverOpens => exact ⟨_, rfl, .finished (coverOpened_keeps s)⟩
  case coverCloses => exact ⟨_, rfl, .finished (coverClosed_keeps s)⟩
  case paperEnd | paperReleaseLeverOpens | ribbonEnd | tapeEnd => exact ⟨_, rfl, .finished (joinHold_keeps ..)⟩
  case paperPresent | ribbonReplaced | tapeReplaced => exact ⟨_, rfl, .finished (sensorLeaves_keeps ..)⟩
  case paperReleaseLeverCloses => exact ⟨_, rfl, .finished ((clearMemory_keeps s).trans (sensorLeaves_keeps ..))⟩
  case checkCompletion => exact ⟨_, rfl, .finished (checkEvent_keeps s)⟩
  case lineHoldTimerExpiry => exact ⟨_, rfl, .finished (timerExpiry_keeps s)⟩
  case takeover => exact ⟨_, rfl, .finished (placementEvent_keeps (tryTakeover_keeps s))⟩
  case printLineFeeding => exact ⟨_, rfl, .finished (placementEvent_keeps (feedPrintLine_keeps s))⟩
  case closingPlacements => exact ⟨_, rfl, .finished (placementEvent_keeps (closePrintLine_keeps s))⟩
  case liftPlacement => exact ⟨_, rfl, .finished (placementEvent_keeps (correctionWork_keeps s))⟩
  case wordCheck a | echo a | linkFormat a | peek a | takeReport a | status a | resume a | clearFault a | continueCmd a |
      cancelPending a | accept a | acceptAndLearn a | userWordAdd a | userWordRemove a | rejectWordAdd a | rejectWordRemove a |
      listClear a | wheelDefine a | wheelMap a | displayWidth a | remoteHold a | release a | holdTime a | attnLevel a |
      resetEngine a =>
    exact ⟨_, rfl, .finished (commandArrives_keeps ..)⟩
  case replyLastByteClocked =>
    refine ⟨_, rfl, consoleRow_leaves (lastByteClocked_keeps s) ?_⟩
    unfold lastByteClocked
    split <;> rfl
  case breakEnd => exact ⟨_, rfl, interfaceRow_leaves (setBreak_keeps s false) rfl⟩
  all_goals exact ⟨_, rfl, takeRow_leaves s _⟩

/-- The queue of waiting rows is no part of what the invariants speak of. -/
theorem pending_keeps (s : State) (rest : List Instr) : Keeps s { s with pending := rest } :=
  ⟨id, id, id, id, id, id, id, id, id, .inl rfl⟩

/-- One step: nothing, or a row in the state without its front command. -/
theorem step_leaves {s t : State} (h : step s = .next t) : t = s ∨ ∃ rest, RowLeaves { s with pending := rest } t := by
  unfold step at h
  split at h
  · cases h
    exact .inl rfl
  · rename_i c rest _
    obtain ⟨u, hu, leaves⟩ := exec_leaves c { s with pending := rest }
    cases hu.symm.trans h
    exact .inr ⟨rest, leaves⟩

theorem step_keeps {s t : State} (h : step s = .next t) : Keeps s t := by
  rcases step_leaves h with rfl | ⟨rest, leaves⟩
  · exact .refl t
  · exact (pending_keeps s rest).trans leaves.keeps

theorem RowLeaves.lineHeld {s t : State} (h : RowLeaves s t) (hs : s.LineHeld) : t.LineHeld := by
  refine ⟨h.keeps.granted hs.1, ?_⟩
  cases h with
  | powerOn x => exact fun hrun => absurd rfl hrun
  | finished _ => exact finish_timer s _
  | quiet _ same =>
    obtain ⟨hcomp, harb, -, -, hcon, hifl, -⟩ := same
    unfold State.TimerConditions
    rw [hcomp, harb, hcon, hifl]
    exact hs.2

theorem powerOn_current (x : Sensors) (s : State) : (powerOn x s).DisplayCurrent ∧ (powerOn x s).CursorInView :=
  ⟨buildImage_again (w := 32) (by decide) _ _ _, (by decide : 32 ∈ [16, 20, 24, 32, 40]), Nat.zero_le _, Nat.zero_le _⟩

theorem RowLeaves.current {s t : State} (h : RowLeaves s t) (hs : s.DisplayCurrent) (hview : s.CursorInView) :
    t.DisplayCurrent ∧ t.CursorInView := by
  cases h with
  | powerOn x => exact powerOn_current x s
  | finished h =>
    refine rebuild_current ?_
    rcases h.width with same | isWidth
    · exact same ▸ hview.1
    · exact isWidth
  | quiet _ same =>
    obtain ⟨hcomp, harb, hseq, hspell, -, -, himage⟩ := same
    simp only [State.DisplayCurrent, State.CursorInView, State.cursor, buildImage, cellEntries, statusRecord, State.entries]
      at hs hview ⊢
    rw [hcomp, harb, hseq, hspell, himage]
    exact ⟨hs, hview⟩

end Sys2Proof.Machine

namespace Sys2Proof.Proofs
open Sys2Proof.Machine

/-! ## What every step keeps -/

/-- Settles O4, by the relation that every operation of an event keeps (Keeps), row by row. -/
theorem queuesStayBounded : Obligations.QueuesStayBounded := fun _ _ hs hstep => (step_keeps hstep).queues hs

/-- Settles O5, by the same relation: the memory grows only as a record is filed. -/
theorem memoryStaysBounded : Obligations.MemoryStaysBounded := fun _ _ hs hstep => (step_keeps hstep).memory hs

/-- Settles O6, by the same relation: margins, positions and stops support one another. -/
theorem positionsStayOnThePaper : Obligations.PositionsStayOnThePaper :=
  fun _ _ hmargins hpaper hstops hstep => (step_keeps hstep).placed ⟨hmargins, hpaper, hstops⟩

/-- Settles O7, by the same relation, one part for each table and each range. -/
theorem tablesAndSettingsStay : Obligations.TablesAndSettingsStay :=
  ⟨⟨fun _ _ hs hstep => (step_keeps hstep).wheels hs, fun _ _ hs hstep => (step_keeps hstep).lists hs⟩,
    fun _ _ hs hstep => (step_keeps hstep).settings hs, fun _ _ hs hstep => (step_keeps hstep).counters hs⟩

/-- Settles O8: the grant by the same relation, the timer by the end of the event. -/
theorem lineKeepsTheGrant : Obligations.LineKeepsTheGrant := fun _ _ hs hstep => by
  rcases step_leaves hstep with rfl | ⟨rest, leaves⟩
  · exact hs
  · exact leaves.lineHeld hs

/-- Settles O9: an event ends with a rebuild, and a link's row changes nothing that is shown. -/
theorem displayStaysCurrent : Obligations.DisplayStaysCurrent := fun _ _ hs hview hstep => by
  rcases step_leaves hstep with rfl | ⟨rest, leaves⟩
  · exact ⟨hs, hview⟩
  · exact leaves.current hs hview

/-- Settles O10, by the same relation: each motion begun, retried and ended. -/
theorem mechanismStaysSound : Obligations.MechanismStaysSound := fun _ _ hs hstep => (step_keeps hstep).mechanism hs

/-! ## A step, power-on, reset -/

/-- Settles O1, by the two cases of a step. -/
theorem stepRunsFrontCommand : Obligations.StepRunsFrontCommand :=
  ⟨fun c rest s h => by simp [step, h], fun s h => by simp [step, h]⟩

/-- Settles O3: State.reset is a power-on release, and that meets every invariant. -/
theorem resetMeetsInvariants : Obligations.ResetMeetsInvariants := by
  have powered : powerOn ⟨false, false, false, false, false⟩ State.reset = State.reset := by decide
  have meets := powerOn_meets ⟨false, false, false, false, false⟩ State.reset
  have current := powerOn_current ⟨false, false, false, false, false⟩ State.reset
  rw [powered] at meets current
  obtain ⟨queues, memory, ⟨margins, paper, stops⟩, wheels, lists, settings, counters, mechanism, granted⟩ := meets
  exact ⟨congrArg Host.Outcome.next powered, queues, memory, margins, paper, stops, wheels, lists,
    ⟨granted, fun running => absurd rfl running⟩, current.1, current.2, settings, counters, mechanism⟩

end Sys2Proof.Proofs

/-! ## Report queues, power-on, rotation, the display link, the transmitter -/

namespace Sys2Proof.Machine

/-! ### A report joining a queue (R189) -/

theorem ReportQueue.add_of_room {q : ReportQueue} (r : Record) (hloss : q.loss = false) (hroom : q.records.length < 32) :
    q.add r = { q with records := q.records ++ [r] } := by
  have room : q.records.length < Config.reportPlaces := hroom
  simp [ReportQueue.add, hloss, room]

theorem ReportQueue.add_of_full {q : ReportQueue} (r : Record) (hloss : q.loss = false) (hfull : 32 ≤ q.records.length) :
    q.add r = ⟨q.records, true, 1, r.urgent⟩ := by
  have full : ¬q.records.length < Config.reportPlaces := not_lt.2 hfull
  simp [ReportQueue.add, hloss, full]

/-- R189: with a loss standing, by the places left for the LOST record and the report. -/
theorem ReportQueue.add_of_loss {q : ReportQueue} (r : Record) (hloss : q.loss = true) :
    q.add r =
      if q.records.length + 2 ≤ 32 then ⟨q.records ++ [q.lostRecord, r], false, 0, false⟩
      else if q.records.length + 1 ≤ 32 then ⟨q.records ++ [(q.countLost r.urgent).lostRecord], false, 0, false⟩
      else q.countLost r.urgent := by
  simp [ReportQueue.add, hloss, Config.reportPlaces]

/-- R189: reports that all find a place stand in the queue in the order they came. -/
theorem foldl_add_of_room : ∀ (rs : List Record) (q : ReportQueue), q.loss = false → q.records.length + rs.length ≤ 32 →
    rs.foldl ReportQueue.add q = { q with records := q.records ++ rs } := by
  intro rs
  induction rs with
  | nil => exact fun q _ _ => by simp
  | cons r rest ih =>
    intro q hloss hroom
    rw [List.length_cons] at hroom
    have next := ih { q with records := q.records ++ [r] } hloss
      (by simp only [List.length_append, List.length_singleton]; omega)
    rw [List.foldl_cons, q.add_of_room r hloss (by omega), next]
    simp

/-! ### Power-on release (R93 to R95) -/

/-- R73, R93: the reasons in the set at power-on, in the table's order. -/
theorem filter_sensorHolds (x : Sensors) :
    holdOrder.filter (sensorHolds x).get =
      ([(x.coverOpen, Hold.coverOpen), (true, .wheelUndefined), (x.paperReleased, .paperReleased), (x.ribbonOut, .ribbonOut),
        (x.tapeOut, .tapeOut), (x.paperOut, .paperOut)].filter Prod.fst).map Prod.snd := by
  obtain ⟨cover, released, ribbon, tape, paper⟩ := x
  revert cover released ribbon tape paper
  decide

theorem powerOnSequencer_state (x : Sensors) : (powerOnSequencer x).state = if x.coverOpen then .blocked else .homing := by
  unfold powerOnSequencer
  cases hcover : x.coverOpen <;> simp [Sequencer.state, Sequencer.homing, sensorHolds, hcover] <;> rfl

theorem powerOnReports_eq (x : Sensors) :
    powerOnReports (powerOnSequencer x) =
      ⟨([(x.coverOpen, Hold.coverOpen), (true, .wheelUndefined), (x.paperReleased, .paperReleased), (x.ribbonOut, .ribbonOut),
        (x.tapeOut, .tapeOut), (x.paperOut, .paperOut)].filter Prod.fst).map fun h =>
        ⟨.mech (.joined h.2) (sensorHolds x) (if x.coverOpen then .blocked else .homing), 0, true⟩, false, 0, false⟩ := by
  unfold powerOnReports
  rw [show (powerOnSequencer x).holds = sensorHolds x from rfl, filter_sensorHolds, powerOnSequencer_state, foldl_add_of_room]
  · simp [ReportQueue.empty, List.map_map, Function.comp_def]
  · rfl
  · have few := List.length_filter_le Prod.fst [(x.coverOpen, Hold.coverOpen), (true, .wheelUndefined),
      (x.paperReleased, .paperReleased), (x.ribbonOut, .ribbonOut), (x.tapeOut, .tapeOut), (x.paperOut, .paperOut)]
    simp only [List.length_map]
    change 0 + _ ≤ 32
    exact (Nat.add_le_add_left few 0).trans (by simp)

/-! ### Rotation (R20) -/

theorem crossesIndex_forward {a b : Nat} (ha : a < 100) (h : (b + 100 - a) % 100 ≤ 50) :
    crossesIndex a b = true ↔ 100 ≤ a + (b + 100 - a) % 100 ∧ (b + 100 - a) % 100 ≠ 0 := by
  rw [crossesIndex, rotationDistance, Nat.mod_eq_of_lt ha]
  split
  · simp_all
  · rw [decide_eq_true_iff]
    tauto

theorem crossesIndex_backward {a b : Nat} (ha : a < 100) (h : 51 ≤ (b + 100 - a) % 100) :
    crossesIndex a b = true ↔ 1 ≤ a ∧ a ≤ 100 - (b + 100 - a) % 100 := by
  rw [crossesIndex, rotationDistance, Nat.mod_eq_of_lt ha]
  rw [if_neg (by omega), if_neg (by omega), Bool.and_eq_true, decide_eq_true_iff, decide_eq_true_iff]

/-! ### The display link (R161 to R165) -/

theorem exec_displaySelect_idle {s : State} (h : s.dlink.txn = none) :
    exec .displaySelect s = .next { s with dlink := { s.dlink with txn := some ⟨s.disp.image, .awaitCommand, 0, false⟩ } } := by
  change execDisplaySelect s = _
  simp [execDisplaySelect, DisplayLink.select, h]

theorem exec_displaySelect_busy {s : State} {x : DisplayTxn} (h : s.dlink.txn = some x) : exec .displaySelect s = .next s := by
  change execDisplaySelect s = _
  simp [execDisplaySelect, DisplayLink.select, h]

theorem exec_windowFetch_of_awaiting {s : State} {t : DisplayTxn} (h : s.dlink.awaiting = some t) :
    exec .windowFetch s =
      .next { s with dlink := ⟨s.dlink.continuous, some { t with stream := .awaitParameter, position := 1 }⟩ } := by
  change execWindowFetch s = _
  simp only [execWindowFetch, h, DisplayLink.firstByte]

theorem exec_statusFetch_of_awaiting {s : State} {t : DisplayTxn} (h : s.dlink.awaiting = some t) :
    exec .statusFetch s = .next { s with
      dlink := ⟨s.dlink.continuous, some { t with stream := .statusRecord, position := 1 }⟩
      disp := { s.disp with attn := decide (t.snapshot ≠ s.disp.image) } } := by
  change execStatusFetch s = _
  simp only [execStatusFetch, h, DisplayLink.firstByte]

/-- R163: a first byte that carries none of the three codes goes on from the start cell. -/
theorem exec_continueFetch_of_awaiting {s : State} {t : DisplayTxn} {c : Nat} {first : Byte} (h : s.dlink.awaiting = some t)
    (hon : s.dlink.continuous = some c) (hwindow : first ≠ 0xA1) (hstatus : first ≠ 0xA2) (hstop : first ≠ 0xA3) :
    exec (.continueFetch first) s =
      .next { s with dlink := ⟨some c, some { t with stream := .cells c 1, position := 1 }⟩ } := by
  have noCode : isDisplayCode first = false :=
    Bool.or_eq_false_iff.2 ⟨Bool.or_eq_false_iff.2 ⟨beq_false_of_ne hwindow, beq_false_of_ne hstatus⟩, beq_false_of_ne hstop⟩
  change execContinueFetch first s = _
  simp only [execContinueFetch, h, hon, noCode, DisplayLink.firstByte]

theorem exec_parameter_inside {s : State} {t : DisplayTxn} {param : Byte} (htxn : s.dlink.txn = some t)
    (hstream : t.stream = .awaitParameter) (hstart : param.toNat % 64 < t.snapshot.width) :
    exec (.windowFetchParameter param) s = .next { s with
      dlink := ⟨if param.getLsbD 7 && !t.widthChanged then some (param.toNat % 64) else none,
        some { t with stream := .cells (param.toNat % 64) 2, position := 2 }⟩ } := by
  change execWindowFetchParameter param s = _
  simp only [execWindowFetchParameter, DisplayLink.parameter, htxn, hstream, hstart, if_true]

theorem exec_parameter_outside {s : State} {t : DisplayTxn} {param : Byte} (htxn : s.dlink.txn = some t)
    (hstream : t.stream = .awaitParameter) (hstart : t.snapshot.width ≤ param.toNat % 64) :
    exec (.windowFetchParameter param) s =
      .next { s with dlink := ⟨none, some { t with stream := .filler, position := 2 }⟩ } := by
  change execWindowFetchParameter param s = _
  simp only [execWindowFetchParameter, DisplayLink.parameter, htxn, hstream, hstart.not_gt, if_true, if_false]

/-- R161: a transaction that has its command takes no first byte again, and none but a window fetch a parameter. -/
theorem exec_display_of_started {s : State} {t : DisplayTxn} (htxn : s.dlink.txn = some t) (hcommand : t.stream ≠ .awaitCommand)
    (hparameter : t.stream ≠ .awaitParameter) (b : Byte) :
    exec .windowFetch s = .next s ∧ exec (.windowFetchParameter b) s = .next s ∧ exec (.continueFetch b) s = .next s ∧
      exec .statusFetch s = .next s ∧ exec .stopFetch s = .next s ∧ exec (.displayNoCommand b) s = .next s := by
  have noFirst : s.dlink.awaiting = none := by simp [DisplayLink.awaiting, htxn, hcommand]
  refine ⟨?_, ?_, ?_, ?_, ?_, ?_⟩
  · change execWindowFetch s = _
    simp only [execWindowFetch, noFirst]
  · change execWindowFetchParameter b s = _
    simp only [execWindowFetchParameter, DisplayLink.parameter, htxn, if_neg hparameter]
  · change execContinueFetch b s = _
    simp only [execContinueFetch, noFirst]
  · change execStatusFetch s = _
    simp only [execStatusFetch, noFirst]
  · change execStopFetch s = _
    simp only [execStopFetch, noFirst]
  · change execDisplayNoCommand b s = _
    simp only [execDisplayNoCommand, noFirst]

theorem DisplayTxn.byteAt_of_cells {t : DisplayTxn} {start firstPlace place : Nat} (h : t.stream = .cells start firstPlace)
    (hplace : 0 < place) :
    t.byteAt place = if place < firstPlace then 0xFF else cellByte t.snapshot start (place - firstPlace) := by
  simp [DisplayTxn.byteAt, h, hplace.ne']

/-- R162: two bytes for each cell, wrapping from the last window cell to the first. -/
theorem cellByte_of_cell {i : Image} {start k : Nat} {c : Cell} (h : i.cells[(start + k) % i.cells.length]? = some c) (n : Nat)
    (hn : n < 2) : cellByte i start (2 * k + n) = c.bytes.getD n 0xFF := by
  have cell : (2 * k + n) / 2 = k := by omega
  have place : (2 * k + n) % 2 = n := by omega
  simp [cellByte, cell, place, h]

/-- R165: the record in the layout of the display chapter. -/
theorem DisplayTxn.byteAt_of_status {t : DisplayTxn} (h : t.stream = .statusRecord) (k : Nat) :
    t.byteAt k = t.snapshot.statusBytes.getD k 0xFF := by
  cases k with
  | zero => rfl
  | succ k => simp [DisplayTxn.byteAt, h]

/-! ### The transmitter (R195) -/

theorem beginFrame_of_record {l : InterfaceLink} {r : Record} {rest : List Record} (htx : l.tx = none) (hready : l.txReady = true)
    (hrecords : l.reports.records = r :: rest) : l.beginFrame = { l with tx := some ⟨r.frame l.format, true⟩ } := by
  simp [InterfaceLink.beginFrame, htx, hready, hrecords]

theorem beginFrame_of_none {l : InterfaceLink} (h : l.tx ≠ none ∨ l.txReady = false ∨ l.reports.records = []) : l.beginFrame = l := by
  unfold InterfaceLink.beginFrame
  split
  · rename_i htx hready hrecords
    simp [htx, hready, hrecords] at h
  · rfl

/-- R195: what an idle transmitter sends next. -/
theorem beginFrame_idle {l : InterfaceLink} (htx : l.tx = none) :
    l.beginFrame =
      { l with tx := if l.txReady then l.reports.records.head?.map fun r => ⟨r.frame l.format, true⟩ else none } := by
  have idle : l = { l with tx := none } := by
    obtain ⟨⟩ := l
    cases htx
    rfl
  cases hready : l.txReady with
  | false => exact (beginFrame_of_none (.inr (.inl hready))).trans (by rw [if_neg nofun, ← hready]; exact idle)
  | true =>
    cases hrecords : l.reports.records with
    | nil => exact (beginFrame_of_none (.inr (.inr hrecords))).trans (by rw [if_pos rfl, ← hready]; exact idle)
    | cons r rest => exact (beginFrame_of_record htx hready hrecords).trans (by rw [if_pos rfl, ← hready]; rfl)

end Sys2Proof.Machine

namespace Sys2Proof.Proofs
open Sys2Proof.Machine

/-- Settles O11, by the loss flag and the places left. -/
theorem reportJoinsOrIsLost : Obligations.ReportJoinsOrIsLost := by
  unfold Obligations.ReportJoinsOrIsLost
  intro q r
  refine ⟨q.add_of_room r, q.add_of_full r, fun hloss hfull => ?_, fun hloss hone => ?_, fun hloss htwo => ?_⟩
  · rw [q.add_of_loss r hloss, if_neg (by omega), if_neg (by omega), ReportQueue.countLost]
  · rw [q.add_of_loss r hloss, if_neg (by omega), if_pos (by omega)]
    rfl
  · rw [q.add_of_loss r hloss, if_pos (by omega)]
    rfl

/-- Settles O2: every block is written out, and the reports are counted off the sensors. -/
theorem powerOnRelease : Obligations.PowerOnRelease := by
  unfold Obligations.PowerOnRelease
  intro x s
  have reports := powerOnReports_eq x
  refine ⟨powerOn x s, rfl, rfl, ?_, ?_, rfl, rfl, rfl, rfl, rfl, rfl, rfl, rfl, rfl, rfl, rfl, ?_, (powerOn_current x s).1, rfl⟩
  · change (powerOnReports (powerOnSequencer x)).records = _
    rw [reports]
    rfl
  · change ConsoleLink.mk [] (powerOnReports (powerOnSequencer x)) false false 1 .none [] = _
    change _ = ConsoleLink.mk [] ⟨(powerOnReports (powerOnSequencer x)).records, false, 0, false⟩ false false 1 .none []
    rw [reports]
  · rfl

/-- Settles O25, by the two directions of a rotation. -/
theorem rotationCrossesIndex : Obligations.RotationCrossesIndex := by
  unfold Obligations.RotationCrossesIndex
  intro a b ha hb d
  refine ⟨?_, crossesIndex_forward ha, crossesIndex_backward ha⟩
  rcases Nat.lt_or_ge 50 d with hback | hforward
  · rw [crossesIndex_backward ha hback]
    constructor
    · rintro ⟨hpos, hle⟩
      exact .inr ⟨hback, a, hpos, hle, by omega⟩
    · rintro (⟨hd, -⟩ | ⟨-, k, hk, hkd, hzero⟩)
      · omega
      · obtain rfl : k = a := by omega
        exact ⟨hk, hkd⟩
  · rw [crossesIndex_forward ha hforward]
    constructor
    · rintro ⟨hreach, hmoves⟩
      exact .inl ⟨hforward, 100 - a, by omega, by omega, by omega⟩
    · rintro (⟨-, k, hk, hkd, hzero⟩ | ⟨hd, -⟩)
      · exact ⟨by omega, by omega⟩
      · omega

/-- Settles O20, by the transaction's state for each row. -/
theorem displayFetchesTaken : Obligations.DisplayFetchesTaken := by
  refine ⟨fun s => ⟨exec_displaySelect_idle, fun x => exec_displaySelect_busy, rfl, fun i n w htxn => ?_, fun i n w param htxn =>
    ⟨fun hin => ?_, fun hout => exec_parameter_outside htxn rfl hout⟩⟩, fun s i n w htxn => ?_⟩
  · rw [exec_windowFetch_of_awaiting (DisplayLink.awaiting_eq_some htxn rfl)]
  · rw [exec_parameter_inside htxn rfl hin]
    cases w <;> simp
  · have hawaiting := DisplayLink.awaiting_eq_some htxn rfl
    exact ⟨fun c first hon hwindow hstatus hstop => exec_continueFetch_of_awaiting hawaiting hon hwindow hstatus hstop,
      exec_stopFetch_of_awaiting hawaiting⟩

/-- Settles O21: the transaction carries the snapshot's record, whose bytes are the layout's. -/
theorem statusFetchTaken : Obligations.StatusFetchTaken := by
  unfold Obligations.StatusFetchTaken
  intro s i n w htxn
  have fetched := exec_statusFetch_of_awaiting (DisplayLink.awaiting_eq_some htxn rfl)
  refine ⟨_, ⟨i, .statusRecord, 1, w⟩, fetched, fun hsame => ?_, fun hother => ?_, ?_, ?_⟩
  · simp [hsame]
  · simp [hother]
  · intro r bit spelling grant state holds units bytes k
    have modeBit : r.mode.code = bit (r.mode == .line) 1 := by cases r.mode <;> rfl
    have spellingBits : 4 * r.spelling.code = spelling := by
      unfold spelling
      cases r.spelling <;> rfl
    have grantBits : 16 * grantCode r.grant = grant := by
      unfold grant
      rcases r.grant with _ | _ | _ <;> rfl
    have stateCode : r.sequencer.code = state := by
      unfold state
      cases r.sequencer <;> rfl
    have record : i.statusBytes = bytes := by
      unfold bytes
      rw [← modeBit, ← spellingBits, ← grantBits, ← stateCode]
      rfl
    rw [DisplayTxn.byteAt_of_status rfl, record, List.getD_eq_getElem?_getD]
  · exact exec_display_of_started (t := ⟨i, .statusRecord, 1, w⟩) rfl
      (by decide : Stream.statusRecord ≠ .awaitCommand) (by decide : Stream.statusRecord ≠ .awaitParameter)

/-- Settles O23, by the place's distance from the first cell byte. -/
theorem cellStreamBytes : Obligations.CellStreamBytes := by
  unfold Obligations.CellStreamBytes
  intro i n start from_ k w hfrom hcells x
  refine ⟨rfl, fun p hp hlt => ?_, fun c hc => ⟨?_, ?_⟩⟩
  · rw [DisplayTxn.byteAt_of_cells rfl hp, if_pos hlt]
  · rw [DisplayTxn.byteAt_of_cells rfl (by omega), if_neg (by omega), show from_ + 2 * k - from_ = 2 * k + 0 by omega,
      cellByte_of_cell hc 0 (by decide)]
    rfl
  · rw [DisplayTxn.byteAt_of_cells rfl (by omega), if_neg (by omega), show from_ + 2 * k + 1 - from_ = 2 * k + 1 by omega,
      cellByte_of_cell hc 1 (by decide)]
    rfl

/-- Settles O19, by what an idle transmitter sends next. -/
theorem transmitterSendsFrames : Obligations.TransmitterSendsFrames := by
  unfold Obligations.TransmitterSendsFrames
  intro s level frame
  refine ⟨fun hidle => ?_, fun r rest htx hrecords => ?_, fun htx => ?_, fun x records htx hrecords => ?_⟩
  · change execTxreadyAsserted level s = _
    rw [execTxreadyAsserted, beginFrame_of_none hidle]
  · change execTxreadyAsserted true s = _
    rw [execTxreadyAsserted, beginFrame_of_record (l := { s.ifl with txReady := true }) htx rfl hrecords]
    rfl
  · change execReportFrameEnd s = _
    simp [execReportFrameEnd, InterfaceLink.frameEnd, htx]
  · change execReportFrameEnd s = _
    rw [execReportFrameEnd, InterfaceLink.frameEnd, htx]
    dsimp only
    rw [beginFrame_idle rfl, ← hrecords]
    rfl

end Sys2Proof.Proofs

/-! ## Console frames and their replies -/

namespace Sys2Proof.Machine

/-! ### A console frame answered (R184, R185) -/

/-- R184, R185: what a console frame makes of the state with its transaction opened, answered. -/
theorem leaves_consoleFrame {s u : State} {code tag : Byte} {notify : Bool} {params : List Byte} {a : Answer}
    (h : frameArrives code tag notify params (openTxn s) = (a, openTxn u)) :
    ∃ t, done s (consoleFrame code tag notify params s) = .next t ∧ Leaves s t (u.answered a.bytes a.takes) := by
  rw [consoleFrame_eq _ _ _ _ _ _ _ h]
  exact leaves_done s _

/-- R184: a code of an immediate command, with a right count of parameters. -/
theorem frameArrives_immediate {code tag : Byte} {notify : Bool} {params : List Byte} {s : State} {cls : CommandClass}
    (hcls : codeClass code = some cls) (himmediate : cls ≠ .queued) (hmatch : paramsMatch code params = true) :
    frameArrives code tag notify params s = immediate code .console tag params s := by
  unfold frameArrives
  rw [hcls, hmatch]
  cases cls with
  | queued => exact absurd rfl himmediate
  | either => rfl
  | consoleOnly => rfl

theorem frameArrives_badCount {code tag : Byte} {notify : Bool} {params : List Byte} {s : State}
    (hcls : codeClass code ≠ none) (hmatch : paramsMatch code params = false) :
    frameArrives code tag notify params s = (.refused .badParameter, s) := by
  unfold frameArrives
  cases h : codeClass code with
  | none => exact absurd h hcls
  | some cls => simp [hmatch]

theorem frameArrives_unknown {code tag : Byte} {notify : Bool} {params : List Byte} {s : State} (h : codeClass code = none) :
    frameArrives code tag notify params s = (.refused .unknownCommand, s) := by
  unfold frameArrives
  rw [h]

/-- The row of an immediate command from the console. -/
theorem leaves_consoleRow {row : Instr} {s u : State} {a : Arrival} {code : Byte} {params : List Byte} {ans : Answer}
    {cls : CommandClass} (hrow : exec row s = done s (commandArrives code a params s)) (hport : a.port = .console)
    (hcls : codeClass code = some cls) (himmediate : cls ≠ .queued) (hmatch : paramsMatch code params = true)
    (hdone : immediate code .console a.tag params (openTxn s) = (ans, openTxn u)) :
    ∃ t, exec row s = .next t ∧ Leaves s t (u.answered ans.bytes ans.takes) := by
  rw [hrow, commandArrives, hport]
  exact leaves_consoleFrame ((frameArrives_immediate hcls himmediate hmatch).trans hdone)

/-! ### The queued commands of the catalogue -/

theorem parseQueued_spec {code : Byte} {params : List Byte} {cmd : QCmd} (h : parseQueued code params = some cmd) :
    codeClass code = some .queued ∧ paramsMatch code params = true := by
  unfold parseQueued at h
  split at h
  case h_30 => cases h
  all_goals exact ⟨by decide, rfl⟩

/-- R184: a queued command's code and a right count of parameters name a command. -/
theorem parseQueued_isSome {code : Byte} {params : List Byte} (hcls : codeClass code = some .queued)
    (hmatch : paramsMatch code params = true) : (parseQueued code params).isSome = true := by
  have hmem : code ∈ ([0x41, 0x50, 0x51, 0x42, 0x4B, 0x49, 0x4A, 0x46, 0x47, 0x48, 0x4D, 0x4E, 0x4F, 0x43, 0x57, 0x4C, 0x62, 0x67,
      0x44, 0x45, 0x54, 0x53, 0x55, 0x56, 0x58, 0x59, 0x5A, 0x69, 0x6A] : List Byte) := by
    unfold codeClass at hcls
    split at hcls
    · rename_i h
      exact List.contains_iff_mem.1 h
    · split at hcls
      · cases hcls
      · split at hcls <;> cases hcls
  have hlength : params.length = paramsNeeded code params := beq_iff_eq.1 hmatch
  simp only [List.mem_cons, List.not_mem_nil, or_false] at hmem
  -- each code fixes how many parameters there are, and with them parseQueued computes
  rcases hmem with rfl | rfl | rfl | rfl | rfl | rfl | rfl | rfl | rfl | rfl | rfl | rfl | rfl | rfl | rfl | rfl | rfl | rfl | rfl |
      rfl | rfl | rfl | rfl | rfl | rfl | rfl | rfl | rfl | rfl
  all_goals first
    | (obtain rfl := List.length_eq_zero_iff.1 hlength; rfl)
    | (obtain ⟨_, rfl⟩ := List.length_eq_one_iff.1 hlength; rfl)
    | (obtain ⟨_, _, rfl⟩ := List.length_eq_two.1 hlength; rfl)
    | (obtain ⟨_, _, _, rfl⟩ := List.length_eq_three.1 hlength; rfl)

/-- R170: a queued command from the console, by the room in the inbound queue. -/
theorem frameArrives_queued {code tag : Byte} {notify : Bool} {params : List Byte} {s : State} {cmd : QCmd}
    (h : parseQueued code params = some cmd) :
    frameArrives code tag notify params s =
      if s.con.inbound.length < 16 then (.accepted [], s.arrived .console ⟨cmd, tag, notify⟩) else (.queueFull, s) := by
  obtain ⟨hcls, hmatch⟩ := parseQueued_spec h
  unfold frameArrives
  rw [hcls, hmatch, h]
  simp only [consoleQueued, Config.consolePlaces, enqueue_eq]
  rfl

theorem arrived_openTxn (s : State) (it : QItem) : (openTxn s).arrived .console it = openTxn (s.arrived .console it) := by
  unfold State.arrived
  change (if s.con.inbound = [] then _ else _) = _
  split <;> rfl

/-- R147, R149, R150, R175: a command whose first parameter selects between two has no third. -/
theorem immediate_noSelector {code tag : Byte} {params : List Byte} {s : State} (hcode : code ∈ ([0x61, 0x75, 0x76, 0x79] : List Byte))
    (h0 : params.head? ≠ some 0) (h1 : params.head? ≠ some 1) :
    immediate code .console tag params s = (.refused .badParameter, s) := by
  simp only [List.mem_cons, List.not_mem_nil, or_false] at hcode
  rcases hcode with rfl | rfl | rfl | rfl
  · change acceptCommand params s = _
    unfold acceptCommand
    split
    · exact absurd rfl h0
    · exact absurd rfl h1
    · rfl
  · change wordListCommand .user params s = _
    unfold wordListCommand
    split
    · exact absurd rfl h0
    · exact absurd rfl h1
    · rfl
  · change wordListCommand .reject params s = _
    unfold wordListCommand
    split
    · exact absurd rfl h0
    · exact absurd rfl h1
    · rfl
  · change remoteHoldCommand params s = _
    unfold remoteHoldCommand
    split
    · exact absurd rfl h1
    · exact absurd rfl h0
    · rfl

/-! ### Release and overrun of the select (R184, R186, R188) -/

theorem exec_release_ignored {s : State} (m : ReleaseMoment) (h : s.con.txn = .ignored) :
    exec (.consoleSelectRelease m) s = .next { s with con := { s.con with txn := .none } } := by
  change execConsoleSelectRelease m s = _
  simp only [execConsoleSelectRelease, releaseSelect, h]

theorem exec_release_early {s : State} {m : ReleaseMoment} (h : s.con.txn ≠ .ignored) (hm : m ≠ .atReplyEnd) :
    exec (.consoleSelectRelease m) s = .next { s with con := { s.con with frameError := true, txn := .none } } := by
  change execConsoleSelectRelease m s = _
  unfold execConsoleSelectRelease releaseSelect
  split
  · exact absurd ‹_› h
  · exact absurd rfl hm
  · rfl

theorem exec_release_atEnd {s : State} (h : s.con.txn ≠ .ignored) :
    exec (.consoleSelectRelease .atReplyEnd) s =
      .next { s with con := { s.con with frameError := s.con.frameError || s.con.txn == .replying true, txn := .none } } := by
  change execConsoleSelectRelease .atReplyEnd s = _
  unfold execConsoleSelectRelease releaseSelect
  split
  · exact absurd ‹_› h
  · rfl
  · rename_i hmoment
    exact absurd rfl hmoment

theorem byteAt_ignored {c : ConsoleLink} (h : c.txn = .ignored) (frameBytes place : Nat) : c.byteAt frameBytes place = 0xFF := by
  simp [ConsoleLink.byteAt, h]

theorem byteAt_replying {c : ConsoleLink} {take : Bool} (h : c.txn = .replying take) (frameBytes place : Nat) :
    c.byteAt frameBytes place = if place < frameBytes then 0xFF else c.reply.getD (place - frameBytes) 0xFF := by
  simp [ConsoleLink.byteAt, h]

/-! ### Pulled reports (R188) -/

theorem exec_lastByte_take {s : State} (h : s.con.txn = .replying true) :
    exec .replyLastByteClocked s = .next { s with con := { s.con with
      reports := { s.con.reports with records := s.con.reports.records.drop 1 }, txn := .replying false } } := by
  change execReplyLastByteClocked s = _
  simp only [execReplyLastByteClocked, lastByteClocked, h]

theorem exec_lastByte_other {s : State} (h : s.con.txn ≠ .replying true) : exec .replyLastByteClocked s = .next s := by
  change execReplyLastByteClocked s = _
  unfold execReplyLastByteClocked lastByteClocked
  split
  · exact absurd ‹_› h
  · rfl

end Sys2Proof.Machine

namespace Sys2Proof.Proofs
open Sys2Proof.Machine

theorem queuedCommandArrives : Sys2Proof.Claims.QueuedCommandArrives := by
  intro s f
  have answered {a : Answer} {u : State} (h : frameArrives f.code f.tag (f.flags.getLsbD 0) f.params (openTxn s) = (a, openTxn u)) :
      ∃ t, exec (.queuedCommandArrival f) s = .next t ∧ Leaves s t (u.answered a.bytes a.takes) := leaves_consoleFrame h
  refine ⟨fun hcls => answered (frameArrives_unknown hcls), fun hcls hnone => ?_, fun hcode h0 h1 => ?_, fun cmd hcmd => ⟨?_, ?_⟩⟩
  · refine answered (frameArrives_badCount (by simp [hcls]) ?_)
    cases hmatch : paramsMatch f.code f.params with
    | false => rfl
    | true =>
      have isSome := parseQueued_isSome hcls hmatch
      simp [hnone] at isSome
  · have hcls : codeClass f.code = some .consoleOnly := by
      revert hcode
      generalize f.code = code
      revert code
      decide
    cases hmatch : paramsMatch f.code f.params with
    | false => exact answered (frameArrives_badCount (by simp [hcls]) hmatch)
    | true => exact answered ((frameArrives_immediate hcls nofun hmatch).trans (immediate_noSelector hcode h0 h1))
  · intro hfull
    have refused := frameArrives_queued (tag := f.tag) (notify := f.flags.getLsbD 0) (s := openTxn s) hcmd
    rw [if_neg (show ¬(openTxn s).con.inbound.length < 16 from not_lt.2 hfull)] at refused
    exact answered refused
  · intro hroom
    have accepted := frameArrives_queued (tag := f.tag) (notify := f.flags.getLsbD 0) (s := openTxn s) hcmd
    rw [if_pos (show (openTxn s).con.inbound.length < 16 from hroom), arrived_openTxn] at accepted
    exact answered accepted

theorem selectReleaseAndOverrun : Sys2Proof.Claims.SelectReleaseAndOverrun := by
  intro s
  refine ⟨exec_release_ignored, fun m => exec_release_early, fun htake => ?_, fun hquiet => ?_, rfl⟩
  · rw [exec_release_atEnd (by simp [htake]), htake]
    simp
  · rcases hquiet with h | h <;> rw [exec_release_atEnd (by simp [h]), h] <;> simp

theorem consoleBytesSent : Sys2Proof.Claims.ConsoleBytesSent := by
  refine ⟨fun c take frameBytes h => ⟨fun place hlt => ?_, fun k b hb => ?_, fun k hk => ?_⟩, fun s => ⟨_, rfl, byteAt_ignored rfl⟩⟩
  · rw [byteAt_replying h, if_pos hlt]
  · rw [byteAt_replying h, if_neg (by omega), Nat.add_sub_cancel_left, List.getD_eq_getElem?_getD, hb]
    rfl
  · rw [byteAt_replying h, if_neg (by omega), Nat.add_sub_cancel_left, List.getD_eq_getElem?_getD, List.getElem?_eq_none hk]
    rfl

/-- Settles O12, by the tests of a frame in their order, the moment of a release, and the place of a byte. -/
theorem frameTransactions : Obligations.FrameTransactions := ⟨queuedCommandArrives, selectReleaseAndOverrun, consoleBytesSent⟩

theorem peekAndTake : Sys2Proof.Claims.PeekAndTake := by
  intro s a hport hparams
  have peeked {ans : Answer} (h : peekOp (openTxn s) = (ans, openTxn s)) :
      ∃ t, exec (.peek a) s = .next t ∧ Leaves s t (s.answered ans.bytes ans.takes) :=
    leaves_consoleRow (code := 0x70) rfl hport rfl nofun (by rw [hparams]; rfl) h
  have took {ans : Answer} (h : takeOp (openTxn s) = (ans, openTxn s)) :
      ∃ t, exec (.takeReport a) s = .next t ∧ Leaves s t (s.answered ans.bytes ans.takes) :=
    leaves_consoleRow (code := 0x74) rfl hport rfl nofun (by rw [hparams]; rfl) h
  have records : (openTxn s).con.reports.records = s.con.reports.records := rfl
  refine ⟨fun hempty => ⟨peeked (ans := .empty) ?_, took (ans := .empty) ?_⟩, fun r rest hhead =>
    ⟨peeked (ans := .data r.bytes) ?_, took (ans := .takeData r.bytes) ?_⟩, exec_lastByte_take, exec_lastByte_other⟩
  · simp only [peekOp, records, hempty]
  · simp only [takeOp, records, hempty]
  · simp only [peekOp, records, hhead]
  · simp only [takeOp, records, hhead]

theorem statusReply : Sys2Proof.Claims.StatusReply := by
  intro s a hport hparams
  have answered : consoleFrame 0x73 a.tag false [] s = { s with
      con := { s.con with
        frameError := false, overrun := false, txn := .replying false, reply := [4, 16] ++ statusData (openTxn s) }
      ifl := s.ifl.clearErrors } := rfl
  have row : exec (.status a) s = done s (consoleFrame 0x73 a.tag false [] s) := by
    change done s (commandArrives 0x73 a a.params s) = _
    rw [commandArrives, hport, hparams]
  obtain ⟨t, ht, leaves⟩ := leaves_done s (consoleFrame 0x73 a.tag false [] s)
  rw [answered] at leaves
  have reply : t.con.reply = [4, 16] ++ statusData (openTxn s) := by rw [leaves.1]
  refine ⟨t, row.trans ht, reply, ?_⟩
  rw [reply]
  exact leaves

/-- Settles O13, by the head of the report queue and by STATUS's data. -/
theorem reportsPulled : Obligations.ReportsPulled := ⟨peekAndTake, statusReply⟩

end Sys2Proof.Proofs

/-! ## The interface link: characters, errors, command sequences -/

namespace Sys2Proof.Machine

/-! ### A character received (R171, R190 to R193) -/

theorem exec_interfaceByte (rx : RxFrame) (s : State) : exec (.interfaceByte rx) s = done s (receive rx s) := rfl

theorem receive_inBreak {s : State} (rx : RxFrame) (h : s.ifl.inBreak = true) : receive rx s = s := by simp [receive, h]

theorem receive_framing {s : State} {rx : RxFrame} (hbreak : s.ifl.inBreak = false) (hstop : rx.stop = false) :
    receive rx s = linkError .framing s := by simp [receive, receiveFrame, hbreak, hstop]

theorem receive_parity {s : State} {rx : RxFrame} (hbreak : s.ifl.inBreak = false) (hstop : rx.stop = true)
    (hparity : parityAgrees (rxFormat s.ifl rx) rx.data rx.parity = false) : receive rx s = linkError .parity s := by
  simp [receive, receiveFrame, hbreak, hstop, hparity]

theorem receive_overrun {s : State} {rx : RxFrame} (hbreak : s.ifl.inBreak = false) (hstop : rx.stop = true)
    (hparity : parityAgrees (rxFormat s.ifl rx) rx.data rx.parity = true) (hfull : 48 ≤ s.ifl.inbound.length) :
    receive rx s = linkError .overrun s := by
  simp [receive, receiveFrame, hbreak, hstop, hparity, Config.interfacePlaces, hfull]

theorem receive_good {s : State} {rx : RxFrame} {b : Byte} (h : s.GoodByte rx b) : receive rx s = decodeByte (rxFormat s.ifl rx) b s := by
  obtain ⟨hbreak, hstop, hparity, hroom, hbyte⟩ := h
  have agrees : parityAgrees (rxFormat s.ifl rx) rx.data rx.parity = true := hparity
  have data : dataBits (rxFormat s.ifl rx) rx.data = b := hbyte
  simp [receive, receiveFrame, hbreak, hstop, agrees, Config.interfacePlaces, hroom, data]

/-- A good byte's row leaves what decoding it leaves. -/
theorem leaves_goodByte {s u : State} {rx : RxFrame} {b : Byte} (h : s.GoodByte rx b) (hu : decodeByte (rxFormat s.ifl rx) b s = u) :
    ∃ t, exec (.interfaceByte rx) s = .next t ∧ Leaves s t u := by
  rw [exec_interfaceByte, receive_good h, hu]
  exact leaves_done s u

/-! ### Parity (R190, R192) -/

/-- The running parity of a list of bits: what stood before, changed by an odd number of ones. -/
theorem foldl_parity (p : Nat → Bool) : ∀ (is : List Nat) (acc : Bool),
    is.foldl (fun acc i => acc != p i) acc = (acc != decide (is.countP p % 2 = 1)) := by
  intro is
  induction is with
  | nil => exact fun acc => by cases acc <;> rfl
  | cons i rest ih =>
    intro acc
    rw [List.foldl_cons, ih, List.countP_cons]
    rcases Nat.mod_two_eq_zero_or_one (rest.countP p) with heven | hodd
    · have odd : (rest.countP p + 1) % 2 = 1 := by omega
      cases p i <;> cases acc <;> simp [heven, odd]
    · have even : (rest.countP p + 1) % 2 = 0 := by omega
      cases p i <;> cases acc <;> simp [hodd, even]

theorem oddOnes_eq (b : Byte) : oddOnes b = decide ((List.range 8).countP (fun i => b.getLsbD i) % 2 = 1) := by
  rw [oddOnes, foldl_parity]
  exact Bool.false_bne _

/-- R190: the eighth bit of a character is no data in a 7-bit format. -/
theorem getLsbD_sevenBits (b : Byte) (i : Nat) : (byte (b.toNat % 128)).getLsbD i = (decide (i < 7) && b.getLsbD i) := by
  rw [byte, BitVec.getLsbD_ofNat, show 128 = 2 ^ 7 from rfl, Nat.testBit_mod_two_pow, BitVec.testBit_toNat]
  by_cases h : i < 7
  · simp [h, h.trans (by decide : 7 < 8)]
  · simp [h]

theorem oddOnes_sevenBits (b : Byte) :
    oddOnes (byte (b.toNat % 128)) = decide ((List.range 7).countP (fun i => b.getLsbD i) % 2 = 1) := by
  have same : (List.range 8).countP (fun i => (byte (b.toNat % 128)).getLsbD i) = (List.range 7).countP fun i => b.getLsbD i := by
    rw [List.range_succ, List.countP_append]
    simp only [getLsbD_sevenBits]
    simp only [List.countP_singleton, lt_irrefl, decide_false, Bool.false_and, Bool.false_eq_true, if_false, Nat.add_zero]
    exact List.countP_congr fun i hi => by simp [List.mem_range.1 hi]
  rw [oddOnes_eq, same]

/-- R192: the parity bit and the ones agree as their sum is even. -/
theorem parity_even_iff (n : Nat) (parity : Bool) :
    (parity == decide (n % 2 = 1)) = true ↔ (n + if parity then 1 else 0) % 2 = 0 := by
  rcases Nat.mod_two_eq_zero_or_one n with h | h <;> cases parity <;> simp [h] <;> omega

theorem parity_odd_iff (n : Nat) (parity : Bool) :
    (parity != decide (n % 2 = 1)) = true ↔ (n + if parity then 1 else 0) % 2 = 1 := by
  rcases Nat.mod_two_eq_zero_or_one n with h | h <;> cases parity <;> simp [h] <;> omega

/-! ### The bytes of the stream, one by one (R191) -/

theorem decodeByte_idle {s : State} (f : LineFormat) (b : Byte) (h : s.ifl.assembly = .idle) : decodeByte f b s = streamByte b s := by
  simp [decodeByte, h]

theorem decodeByte_code {s : State} {notify : Bool} (f : LineFormat) (b : Byte) (h : s.ifl.assembly = .code notify) :
    decodeByte f b s = codeByte notify b s := by simp [decodeByte, h]

theorem readSplit_whole {f : LineFormat} (b : Byte) (h : f.seven = false) : readSplit f none b = .whole b := by simp [readSplit, h]

theorem decodeByte_unknownTag {s : State} {f : LineFormat} {code b : Byte} (h : s.ifl.assembly = .unknownTag code none)
    (hf : f.seven = false) : decodeByte f b s = unknownArrives code b s := by simp [decodeByte, h, readSplit_whole b hf]

theorem decodeByte_body {s : State} {f : LineFormat} {notify : Bool} {code b : Byte} {got : List Byte}
    (h : s.ifl.assembly = .body notify code got none) (hf : f.seven = false) :
    decodeByte f b s = bodyByte notify code got b s := by simp [decodeByte, h, readSplit_whole b hf]

theorem codeByte_eq {notify : Bool} {b : Byte} {s : State} (h : b ≠ 0x40) :
    codeByte notify b s =
      setAssembly (if (codeClass b).isSome then .body notify b [] none else .unknownTag b none) s := by
  unfold codeByte
  rw [if_neg h]
  cases codeClass b <;> rfl

theorem bodyByte_more {notify : Bool} {code b tag : Byte} {got params : List Byte} {s : State} (hgot : got ++ [b] = tag :: params)
    (hmatch : paramsMatch code params = false) :
    bodyByte notify code got b s = setAssembly (.body notify code (got ++ [b]) none) s := by
  simp [bodyByte, hgot, hmatch]

theorem bodyByte_last {notify : Bool} {code b tag : Byte} {got params : List Byte} {s : State} (hgot : got ++ [b] = tag :: params)
    (hmatch : paramsMatch code params = true) :
    bodyByte notify code got b s = sequenceArrives code tag notify params (setAssembly .idle s) := by
  simp [bodyByte, hgot, hmatch]

theorem sequenceArrives_consoleOnly {code tag : Byte} {notify : Bool} {params : List Byte} {s : State}
    (h : codeClass code = some .consoleOnly) :
    sequenceArrives code tag notify params s = report s .interface tag (.refused .notAllowed code .plain) := by
  simp [sequenceArrives, h]

theorem sequenceArrives_queued {code tag : Byte} {notify : Bool} {params : List Byte} {s : State} {cmd : QCmd}
    (h : parseQueued code params = some cmd) : sequenceArrives code tag notify params s = s.arrived .interface ⟨cmd, tag, notify⟩ := by
  simp [sequenceArrives, (parseQueued_spec h).1, h, enqueue_eq]

/-! ### A command sequence as a host sends it (R190, R191) -/

/-- R191: a sequence's parameters are not whole before the last of them. -/
theorem paramsMatch_initial {code b : Byte} {params rest : List Byte} (h : paramsMatch code (params ++ b :: rest) = true) :
    paramsMatch code params = false := by
  have hlength : (params ++ b :: rest).length = paramsNeeded code (params ++ b :: rest) := beq_iff_eq.1 h
  refine beq_eq_false_iff_ne.2 fun hparams => ?_
  rw [List.length_append, List.length_cons] at hlength
  revert hlength hparams
  unfold paramsNeeded
  split
  · rcases params with _ | ⟨x, params⟩ <;> simp <;> omega
  · rcases params with _ | ⟨x, _ | ⟨y, params⟩⟩ <;> simp <;> omega
  · rcases params with _ | ⟨x, _ | ⟨y, params⟩⟩ <;> simp <;> omega
  · rcases params with _ | ⟨x, _ | ⟨y, _ | ⟨z, params⟩⟩⟩ <;> simp <;> omega
  all_goals omega

/-- R190: a tag or parameter byte in a format. -/
def splitFor (f : LineFormat) (v : Byte) : List Byte := if f.seven then splitByte v else [v]

theorem sequenceBytes_eq (f : LineFormat) (notify : Bool) (code tag : Byte) (params : List Byte) :
    sequenceBytes f notify code tag params =
      (if notify then 0x1C else 0x1B) :: code :: (tag :: params).flatMap (splitFor f) := by
  unfold sequenceBytes splitFor
  cases f.seven <;> simp

theorem toNat_splitHigh (v : Byte) : (byte (0x30 + v.toNat / 16)).toNat = 0x30 + v.toNat / 16 := by
  have := v.isLt
  simp only [byte, BitVec.toNat_ofNat]
  omega

theorem toNat_splitLow (v : Byte) : (byte (0x30 + v.toNat % 16)).toNat = 0x30 + v.toNat % 16 := by
  simp only [byte, BitVec.toNat_ofNat]
  omega

theorem readSplit_half {f : LineFormat} (v : Byte) (h : f.seven = true) :
    readSplit f none (byte (0x30 + v.toNat / 16)) = .half (v.toNat / 16) := by
  have := v.isLt
  have range : 0x30 ≤ 0x30 + v.toNat / 16 ∧ 0x30 + v.toNat / 16 ≤ 0x3F := by omega
  have low : (0x30 + v.toNat / 16) % 16 = v.toNat / 16 := by omega
  simp only [readSplit, h, if_true, toNat_splitHigh, if_pos range, low]

theorem readSplit_rest {f : LineFormat} (v : Byte) (h : f.seven = true) :
    readSplit f (some (v.toNat / 16)) (byte (0x30 + v.toNat % 16)) = .whole v := by
  have range : 0x30 ≤ 0x30 + v.toNat % 16 ∧ 0x30 + v.toNat % 16 ≤ 0x3F := by omega
  have whole : v.toNat / 16 * 16 + (0x30 + v.toNat % 16) % 16 = v.toNat := by omega
  simp only [readSplit, h, if_true, toNat_splitLow, if_pos range, whole]
  simp [byte]

/-- R190: whichever way a byte is sent, it is read as that byte of the sequence. -/
theorem decode_splitFor (f : LineFormat) (notify : Bool) (code v : Byte) (got : List Byte) (s : State) :
    (splitFor f v).foldl (fun u b => decodeByte f b u) (setAssembly (.body notify code got none) s) =
      bodyByte notify code got v (setAssembly (.body notify code got none) s) := by
  cases h : f.seven with
  | false =>
    simp only [splitFor, h]
    exact decodeByte_body (s := setAssembly (.body notify code got none) s) rfl h
  | true =>
    have first : decodeByte f (byte (0x30 + v.toNat / 16)) (setAssembly (.body notify code got none) s) =
        setAssembly (.body notify code got (some (v.toNat / 16))) s := by
      simp only [decodeByte, setAssembly, readSplit_half v h]
    have second : decodeByte f (byte (0x30 + v.toNat % 16)) (setAssembly (.body notify code got (some (v.toNat / 16))) s) =
        bodyByte notify code got v (setAssembly (.body notify code got (some (v.toNat / 16))) s) := by
      simp only [decodeByte, setAssembly, readSplit_rest v h]
    simp only [splitFor, h, if_true, splitByte, List.foldl_cons, List.foldl_nil, first, second]
    obtain ⟨tag, params, hgot⟩ := List.exists_cons_of_ne_nil (List.concat_ne_nil v got)
    cases hmatch : paramsMatch code params with
    | false =>
      rw [bodyByte_more hgot hmatch, bodyByte_more hgot hmatch]
      rfl
    | true =>
      rw [bodyByte_last hgot hmatch, bodyByte_last hgot hmatch]
      rfl

/-- R191: the bytes that complete the sequence, from any point of it after the code. -/
theorem decode_rest (f : LineFormat) (notify : Bool) (code tag : Byte) (params : List Byte) (s : State)
    (hmatch : paramsMatch code params = true) : ∀ (rest got : List Byte), rest ≠ [] → got ++ rest = tag :: params →
      (rest.flatMap (splitFor f)).foldl (fun u b => decodeByte f b u) (setAssembly (.body notify code got none) s) =
        sequenceArrives code tag notify params (setAssembly .idle s) := by
  intro rest
  induction rest with
  | nil => exact fun _ hrest => absurd rfl hrest
  | cons v more ih =>
    intro got _ hgot
    rw [List.flatMap_cons, List.foldl_append, decode_splitFor]
    have split : (got ++ [v]) ++ more = tag :: params := by simpa using hgot
    cases more with
    | nil =>
      rw [List.append_nil] at split
      exact bodyByte_last split hmatch
    | cons w more =>
      obtain ⟨before, hbefore⟩ : ∃ before, got ++ [v] = tag :: before := by
        cases got with
        | nil => exact ⟨[], by simpa using (List.cons.inj split).1⟩
        | cons g gs => exact ⟨gs ++ [v], by rw [← (List.cons.inj split).1]; rfl⟩
      rw [hbefore, List.cons_append] at split
      have whole : before ++ w :: more = params := (List.cons.inj split).2
      rw [bodyByte_more hbefore (paramsMatch_initial (whole ▸ hmatch))]
      exact ih (got ++ [v]) nofun (by simpa using hgot)

end Sys2Proof.Machine

namespace Sys2Proof.Proofs
open Sys2Proof.Machine

theorem interfaceErrors : Sys2Proof.Claims.InterfaceErrors := by
  intro s rx f good told
  have row {u : State} (h : receive rx s = u) : ∃ t, exec (.interfaceByte rx) s = .next t ∧ Leaves s t u := by
    rw [exec_interfaceByte, h]
    exact leaves_done s u
  exact ⟨fun hbreak => row (receive_inBreak rx hbreak), fun hbreak hstop => row (receive_framing hbreak hstop),
    fun hbreak hstop hparity => row (receive_parity hbreak hstop hparity),
    fun hbreak hstop hparity hfull => row (receive_overrun hbreak hstop hparity hfull)⟩

theorem parityOfAFrame : Sys2Proof.Claims.ParityOfAFrame := by
  intro b parity ones sum
  refine ⟨rfl, ?_, ?_, ?_, ?_⟩
  · change (parity == oddOnes b) = true ↔ _
    rw [oddOnes_eq]
    exact parity_even_iff ..
  · change (parity != oddOnes b) = true ↔ _
    rw [oddOnes_eq]
    exact parity_odd_iff ..
  · change (parity == oddOnes (byte (b.toNat % 128))) = true ↔ _
    rw [oddOnes_sevenBits]
    exact parity_even_iff ..
  · change (parity != oddOnes (byte (b.toNat % 128))) = true ↔ _
    rw [oddOnes_sevenBits]
    exact parity_odd_iff ..

/-- Settles O14, by the tests of a character in their order, and by counting ones. -/
theorem interfaceErrorsTaken : Obligations.InterfaceErrorsTaken := ⟨interfaceErrors, parityOfAFrame⟩

/-- Settles O15, by induction on the bytes that are still to come. -/
theorem sequenceAssembles : Obligations.SequenceAssembles := by
  unfold Obligations.SequenceAssembles
  intro s f notify code tag params hidle hcls hmatch
  have lead : decodeByte f (if notify then 0x1C else 0x1B) s = setAssembly (.code notify) s := by
    rw [decodeByte_idle f _ hidle]
    cases notify <;> rfl
  have notReset : code ≠ 0x40 := by
    rintro rfl
    exact absurd hcls (by decide)
  have named : decodeByte f code (setAssembly (.code notify) s) = setAssembly (.body notify code [] none) s := by
    rw [decodeByte_code f code rfl, codeByte_eq notReset, hcls]
    rfl
  have idle : setAssembly .idle s = s := by
    rw [← hidle]
    rfl
  rw [sequenceBytes_eq, List.foldl_cons, lead, List.foldl_cons, named,
    decode_rest f notify code tag params s hmatch (tag :: params) [] nofun rfl, idle]

theorem interfaceTextByte : Sys2Proof.Claims.InterfaceTextByte := by
  intro s rx b hgood hidle
  refine leaves_goodByte hgood ?_
  rw [decodeByte_idle _ b hidle, streamByte]
  split
  · rfl
  · split
    · rfl
    · unfold textByte
      simp only [← enqueue_eq, Bool.or_eq_true, Bool.and_eq_true, decide_eq_true_eq]
      split_ifs <;> rfl

theorem sequenceSteps : Sys2Proof.Claims.SequenceSteps := by
  intro s rx b hgood f u
  refine ⟨fun notify hcode hreset => leaves_goodByte hgood ?_, fun code htag hf => leaves_goodByte hgood ?_,
    fun notify code got tag params hbody hf hgot => ⟨fun hmatch => leaves_goodByte hgood ?_,
      fun hmatch hcls => leaves_goodByte hgood ?_, fun cmd hmatch hcls hcmd => leaves_goodByte hgood ?_⟩⟩
  · rw [decodeByte_code _ b hcode, codeByte_eq hreset]
    rfl
  · rw [show rxFormat s.ifl rx = f from rfl, decodeByte_unknownTag htag hf]
    rfl
  · rw [show rxFormat s.ifl rx = f from rfl, decodeByte_body hbody hf, bodyByte_more hgot hmatch]
    rfl
  · rw [show rxFormat s.ifl rx = f from rfl, decodeByte_body hbody hf, bodyByte_last hgot hmatch, sequenceArrives_consoleOnly hcls]
    rfl
  · rw [show rxFormat s.ifl rx = f from rfl, decodeByte_body hbody hf, bodyByte_last hgot hmatch, sequenceArrives_queued hcmd]
    rfl

/-- Settles O16, by what stands under assembly when the byte comes. -/
theorem streamBytesTaken : Obligations.StreamBytesTaken := ⟨interfaceTextByte, sequenceSteps⟩

end Sys2Proof.Proofs

/-! ## The interface reset, implied flushes, the takeover -/

namespace Sys2Proof.Machine

/-! ### What leaves the mechanism alone -/

/-- The sequencer but for its queue: entries may have joined or been withdrawn, and nothing of the mechanism has moved. -/
def State.SameMechanism (s t : State) : Prop := t.seq = { s.seq with queue := t.seq.queue }

theorem State.SameMechanism.of_seq {s t : State} (h : t.seq = s.seq) : s.SameMechanism t := by
  unfold State.SameMechanism
  rw [h]

theorem State.SameMechanism.refl (s : State) : s.SameMechanism s := rfl

theorem State.SameMechanism.trans {s t u : State} (h : s.SameMechanism t) (h' : t.SameMechanism u) : s.SameMechanism u := by
  unfold State.SameMechanism at *
  rw [h', h]

theorem State.SameMechanism.engaged {s t : State} (h : s.SameMechanism t) (hs : s.Engaged) : t.Engaged := by
  unfold State.SameMechanism at h
  refine engaged_seq s t hs ?_ ?_ ?_ <;> rw [h]

theorem sameMechanism_place (es : List SEntry) (s : State) : s.SameMechanism (place es s) := rfl

theorem sameMechanism_queued (es : List SEntry) (s : State) : s.SameMechanism (s.queued es) := rfl

theorem feedEntries_sameMechanism : ∀ (es : List PrintEntry) (l : PrintLine) (s : State), s.SameMechanism (feedEntries es l s).2 := by
  intro es
  induction es with
  | nil => exact fun l s => .refl s
  | cons e rest ih =>
    intro l s
    simp only [feedEntries]
    split
    · exact .refl s
    · have placed : s.SameMechanism (feedOne l e s).2 :=
        (State.SameMechanism.of_seq (feedReports_seq l e (buildPrintEntry s.descriptor e) s)).trans (sameMechanism_place _ _)
      exact placed.trans (ih _ _)

theorem feedPrintLine_sameMechanism (s : State) : s.SameMechanism (feedPrintLine s) := by
  unfold feedPrintLine
  split
  · exact .refl s
  · exact feedEntries_sameMechanism ..

theorem closePrintLine_sameMechanism (s : State) : s.SameMechanism (closePrintLine s) := by
  unfold closePrintLine
  split
  · exact .refl s
  · split
    · rfl
    · exact .refl s

theorem feed_sameMechanism (s : State) : s.SameMechanism (feed s) :=
  (feedPrintLine_sameMechanism s).trans (closePrintLine_sameMechanism _)

theorem numberBridged_seq : ∀ (es : List PrintEntry) (s : State), (numberBridged es s).2.seq = s.seq := by
  intro es
  induction es with
  | nil => exact fun _ => rfl
  | cons e rest ih =>
    intro s
    simp only [numberBridged]
    split
    · exact ih (s.useGroup s.freeGroup)
    · exact ih s

theorem releaseReport_seq (port : Port) (tag : Byte) (l : ComposeLine) (rm : Nat) (layout : Layout) (s : State) :
    (releaseReport port tag l rm layout s).seq = s.seq := by
  unfold releaseReport
  split <;> simp

theorem release_sameMechanism (flush : Bool) (p : Port) (tag : Byte) (notify : Bool) (s : State) :
    s.SameMechanism (release flush p tag notify s) := by
  unfold release
  split
  · refine State.SameMechanism.trans (.of_seq ?_) (feed_sameMechanism _)
    rw [releaseReport_seq, returnMove_seq]
    exact numberBridged_seq ..
  · exact State.SameMechanism.trans (t := returnMove { s with comp := { s.comp with
        printLine := some (newPrintLine s p s.comp.vpos tag notify []) } }) (.of_seq (returnMove_seq _)) (feed_sameMechanism _)

/-! ### A RETURN of DIRECT mode beside the arbiter -/

theorem completeLast_setArb (s : State) (a : Arbiter) :
    completeLast { s with arb := a } = { completeLast s with arb := a } := by
  unfold completeLast
  dsimp only
  split
  · split <;> rfl
  · rfl

theorem lineClosed_setArb (s : State) (a : Arbiter) (counted : Bool) :
    State.lineClosed { s with arb := a } counted = { s.lineClosed counted with arb := a } := by
  unfold State.lineClosed
  dsimp only
  split
  · rfl
  · unfold endWords
    rw [completeLast_setArb]

theorem returned_setArb (s : State) (a : Arbiter) : State.returned { s with arb := a } = { s.returned with arb := a } := by
  unfold State.returned
  dsimp only
  rw [lineClosed_setArb]
  rfl

theorem returned_arb (s : State) : s.returned.arb = s.arb := lineClosed_arb s true

theorem returned_ifl (s : State) : s.returned.ifl = s.ifl := lineClosed_ifl s true

theorem returned_seq (s : State) : s.returned.seq = s.seq := lineClosed_seq s true

theorem returned_printLine (s : State) : s.returned.comp.printLine = s.comp.printLine := by
  unfold State.returned State.lineClosed
  dsimp only
  split <;> rfl

theorem returned_line (s : State) : s.returned.comp.line = none := lineClosed_line s true

/-! ### The implied RETURN FLUSH (R182) -/

theorem tryFlush_placed {s : State} (hpending : s.arb.flushPending = true) (hroom : s.seq.queue.length ≤ 62) :
    tryFlush s =
      (let v := s.returned.queued s.returnStrikes
      let w := if s.arb.takeover then endTakeover s v else v
      State.granted { w with arb := { w.arb with flushPending := false, grant := none } }) := by
  have room : 2 ≤ freePlaces s := by
    simp only [freePlaces, Config.strikePlaces]
    omega
  simp only [tryFlush, hpending, room, decide_true, Bool.and_self, if_true, directFlush_eq, decideGrant_eq]

/-- R182: a reset's own flush, made at once. -/
theorem tryFlush_reset {u : State} (hflush : u.arb.flushPending = false) (htakeover : u.arb.takeover = false)
    (hroom : u.seq.queue.length ≤ 62) :
    tryFlush { u with arb := { u.arb with flushPending := true } } =
      (let v := u.returned.queued u.returnStrikes
      State.granted { v with arb := { v.arb with grant := none } }) := by
  rw [tryFlush_placed (s := { u with arb := { u.arb with flushPending := true } }) rfl hroom, returned_setArb]
  dsimp only
  rw [if_neg (by simp [htakeover])]
  have sameArb : ({ u.arb with flushPending := false, grant := none } : Arbiter) = { u.arb with grant := none } := by
    simp [hflush]
  simp only [State.queued, returned_arb]
  rw [← sameArb]
  rfl

/-! ### The interface reset (R181) -/

/-- R173: with its queue empty, the interface is given no grant at a line boundary. -/
theorem boundaryGrant_ne_interface {s : State} (h : s.ifl.inbound = []) : s.boundaryGrant ≠ some .interface := by
  unfold State.boundaryGrant
  split
  · nofun
  · rw [if_neg (fun hin => hin.1 h)]
    nofun

theorem regranted_of_flush {s : State} (h : s.arb.flushPending = true) : s.regranted = s := by
  unfold State.regranted
  rw [if_neg (fun hdue => Bool.noConfusion (h.symm.trans hdue.2))]

theorem regranted_of_grant {s : State} (h : s.arb.grant ≠ some .interface) : s.regranted = s := by
  unfold State.regranted
  rw [if_neg (fun hdue => h hdue.1)]

theorem granted_ne_interface {s : State} (hgrant : s.arb.grant = none) (hin : s.ifl.inbound = []) :
    s.granted.arb.grant ≠ some .interface := by
  unfold State.granted
  dsimp only
  split
  · rw [hgrant]
    nofun
  · exact boundaryGrant_ne_interface hin

theorem regranted_seq (s : State) : s.regranted.seq = s.seq := by
  unfold State.regranted
  split <;> rfl

/-- R181: the reset, from what becomes of the open line. -/
theorem interfaceReset_eq {s v : State} {cause : ResetCause} {effect : LineEffect}
    (hline : resetOpenLine s.interfaceCleared = (effect, v)) :
    interfaceReset cause s = settleIfQueued s (report v.regranted .console 0 (.interfaceReset cause effect)) := by
  unfold interfaceReset
  rw [resetInterfaceLink_eq, hline]
  simp only [resetGrant_eq]

theorem resetOpenLine_none {s : State} (h : ∀ l ∈ s.comp.line, l.port = .console) : resetOpenLine s = (.none, s) := by
  unfold resetOpenLine
  rw [if_neg]
  cases hline : s.comp.line with
  | none => simp
  | some l => simp [h l hline]

theorem resetOpenLine_waiting {s : State} (hflush : s.arb.flushPending = true) : resetOpenLine s = (.none, s) := by
  unfold resetOpenLine
  split
  · simp
  · rfl

theorem resetOpenLine_discarded {s : State} {l : ComposeLine} (hline : s.comp.line = some l) (hport : l.port = .interface)
    (hflush : s.arb.flushPending = false) (hmode : s.comp.mode = .line) :
    resetOpenLine s = (.discarded, setPoint (s.lineClosed false).comp.lm (s.lineClosed false)) := by
  simp [resetOpenLine, hline, hport, hflush, hmode, discardLine, closeLine_eq]

theorem resetOpenLine_flushed {s : State} {l : ComposeLine} (hline : s.comp.line = some l) (hport : l.port = .interface)
    (hflush : s.arb.flushPending = false) (hmode : s.comp.mode = .direct) :
    resetOpenLine s = (.flushed, tryFlush { s with arb := { s.arb with flushPending := true } }) := by
  simp [resetOpenLine, hline, hport, hflush, hmode]

/-- R193, R194: the two events that reset the interface, a break and the reset sequence, come to one reset of one cleared state. -/
theorem exec_reset {s s0 : State} {row : Instr} {cause : ResetCause}
    (h : row = .breakDetected ∧ cause = .brk ∧ s.ifl.inBreak = false ∧ s0 = { s with ifl := { s.ifl with inBreak := true } } ∨
      (∃ rx notify, row = .interfaceByte rx ∧ s.GoodByte rx 0x40 ∧ s.ifl.assembly = .code notify) ∧ cause = .sequence ∧ s0 = s) :
    ∃ s1 : State, exec row s = done s (interfaceReset cause s1) ∧ s1.interfaceCleared = s0.interfaceCleared ∧
      s1.seq = s.seq := by
  rcases h with ⟨rfl, rfl, hbreak, rfl⟩ | ⟨⟨rx, notify, rfl, hgood, hcode⟩, rfl, hs⟩
  · refine ⟨{ s with ifl := { s.ifl with inBreak := true } }, ?_, rfl, rfl⟩
    change done s (breakDetected s) = _
    rw [breakDetected, if_neg (by simp [hbreak])]
  · subst hs
    refine ⟨setAssembly .idle s0, ?_, rfl, rfl⟩
    rw [exec_interfaceByte, receive_good hgood, decodeByte_code _ _ hcode]
    rfl

/-! ### The composer's own placements, with a busy mechanism -/

theorem placementEvent_busy {f : State → State} {s u : State} (hu : f s = u) (hbusy : u.Engaged)
    (hcorrection : correctionEnded s u = false) (hprint : (s.comp.printLine.isSome && u.comp.printLine.isNone) = false) :
    placementEvent f s = u := by
  unfold placementEvent
  simp only [hu, hcorrection, hprint, Bool.or_self]
  exact settle_engaged u hbusy

end Sys2Proof.Machine

namespace Sys2Proof.Proofs
open Sys2Proof.Machine

theorem interfaceResetMade : Sys2Proof.Claims.InterfaceResetMade := by
  intro s s0 row cause hrow u told
  obtain ⟨s1, hexec, hcleared, hseq⟩ := exec_reset hrow
  have comp : u.comp.line = s.comp.line ∧ u.comp.mode = s.comp.mode ∧ u.arb.flushPending = s.arb.flushPending ∧ u.seq = s.seq := by
    rcases hrow with ⟨_, _, _, hs⟩ | ⟨_, _, hs⟩ <;> subst hs <;> exact ⟨rfl, rfl, rfl, rfl⟩
  obtain ⟨hline, hmode, hflush, huseq⟩ := comp
  -- the reset once the line's fate is known, when no begin test follows it
  have reset {e : LineEffect} {v w : State} (hopen : resetOpenLine u = (e, v)) (hw : v.regranted = w)
      (hquiet : w.seq.queue = s.seq.queue ∨ w.Engaged) : ∃ t, exec row s = .next t ∧ Leaves s t (told e w) := by
    have made : interfaceReset cause s1 = told e w := by
      rw [interfaceReset_eq (s := s1) ((congrArg resetOpenLine hcleared).trans hopen), hw]
      rcases hquiet with hsame | hbusy
      · exact settleIfQueued_same _ _ (by rw [hseq, ← hsame]; rfl)
      · exact settleIfQueued_engaged _ _ hbusy
    rw [hexec, made]
    exact leaves_done s _
  refine ⟨fun hnone => reset (resetOpenLine_none (hline ▸ hnone)) rfl (.inl ?_), fun l hl hport => ⟨fun hwait => ?_, fun hno hm => ?_,
    fun hno hm hroom hbusy => ?_, fun hno hm hfull => ?_⟩⟩
  · rw [regranted_seq, huseq]
  · exact reset (resetOpenLine_waiting (hflush.trans hwait)) (regranted_of_flush (hflush.trans hwait)) (.inl (by rw [huseq]))
  · refine reset (resetOpenLine_discarded (hline.trans hl) hport (hflush.trans hno) (hmode.trans hm)) rfl (.inl ?_)
    rw [regranted_seq]
    exact congrArg Sequencer.queue ((lineClosed_seq u false).trans huseq)
  · have flushed := tryFlush_reset (hflush.trans hno) rfl (huseq ▸ hroom)
    refine reset (resetOpenLine_flushed (hline.trans hl) hport (hflush.trans hno) (hmode.trans hm)) ?_ (.inr ?_)
    · rw [flushed]
      exact regranted_of_grant (granted_ne_interface rfl (returned_ifl u ▸ rfl))
    · have same : s.SameMechanism (u.returned.queued u.returnStrikes) :=
        (State.SameMechanism.of_seq ((returned_seq u).trans huseq)).trans (sameMechanism_queued ..)
      exact same.engaged hbusy
  · refine reset (resetOpenLine_flushed (hline.trans hl) hport (hflush.trans hno) (hmode.trans hm)) ?_ (.inl (by rw [huseq]))
    rw [tryFlush_waits _ (.inr ?_), regranted_of_flush rfl]
    simp only [freePlaces, Config.strikePlaces, huseq]
    omega

theorem breakLastsUntilItsEnd : Sys2Proof.Claims.BreakLastsUntilItsEnd := by
  refine fun s => ⟨fun hbreak => ?_, rfl⟩
  have row : exec .breakDetected s = done s s := by
    change done s (breakDetected s) = _
    rw [breakDetected, if_pos hbreak]
  rw [row]
  exact leaves_done s s

/-- Settles O17, by what becomes of the interface's open line. -/
theorem interfaceIsReset : Obligations.InterfaceIsReset := ⟨interfaceResetMade, breakLastsUntilItsEnd⟩

theorem impliedFlushPlaced : Sys2Proof.Claims.ImpliedFlushPlaced := by
  intro s hbusy v ended
  have row {u : State} (hu : tryFlush s = u) (hmechanism : s.SameMechanism u)
      (hcorrection : u.comp.correction = s.comp.correction) (hprint : u.comp.printLine = s.comp.printLine) :
      ∃ t, exec .impliedReturnFlush s = .next t ∧ Leaves s t u := by
    have made : placementEvent tryFlush s = u := by
      refine placementEvent_busy hu (hmechanism.engaged hbusy) ?_ ?_
      · rw [correctionEnded, hcorrection]
        cases s.comp.correction <;> rfl
      · rw [hprint]
        cases s.comp.printLine <;> rfl
    change ∃ t, done s (placementEvent tryFlush s) = .next t ∧ _
    rw [made]
    exact leaves_done s u
  have mechanism : s.SameMechanism v := (State.SameMechanism.of_seq (returned_seq s)).trans (sameMechanism_queued ..)
  have correction : v.comp.correction = s.comp.correction := lineClosed_correction s true
  have print : v.comp.printLine = s.comp.printLine := returned_printLine s
  refine ⟨fun hpending hroom hno => row ?_ mechanism correction print, fun l hl hpending hroom htake => row ?_ ?_ ?_ ?_, fun hwaits => ?_⟩
  · rw [tryFlush_placed hpending hroom, hno]
    rfl
  · rw [tryFlush_placed hpending hroom]
    simp only [htake, if_true, endTakeover_eq, hl]
    rfl
  · exact mechanism
  · exact correction
  · exact print
  · refine row (tryFlush_waits s ?_) (.refl s) rfl rfl
    simp only [freePlaces, Config.strikePlaces]
    rcases hwaits with hno | hfull
    · exact .inl hno
    · exact .inr (by omega)

theorem timerAndTakeover : Sys2Proof.Claims.TimerAndTakeover := by
  intro s
  refine ⟨fun hruns => ?_, fun hstopped => ?_, fun l hbusy htake hcorrection hl => ?_⟩
  · change ∃ t, done s (timerExpiry s) = .next t ∧ _
    rw [timerExpiry, if_pos (Option.isSome_iff_ne_none.2 hruns)]
    exact leaves_done s _
  · change ∃ t, done s (timerExpiry s) = .next t ∧ _
    rw [timerExpiry, if_neg (by simp [hstopped])]
    exact leaves_done s _
  intro told
  have row {u : State} (hu : tryTakeover s = u) (hmechanism : s.SameMechanism u)
      (hprint : (s.comp.printLine.isSome && u.comp.printLine.isNone) = false) :
      ∃ t, exec .takeover s = .next t ∧ Leaves s t u := by
    have made : placementEvent tryTakeover s = u := by
      refine placementEvent_busy hu (hmechanism.engaged hbusy) ?_ hprint
      rw [correctionEnded, hcorrection]
      rfl
    change ∃ t, done s (placementEvent tryTakeover s) = .next t ∧ _
    rw [made]
    exact leaves_done s u
  refine ⟨fun hmode hroom => row ?_ ?_ ?_, fun hmode hfree => row ?_ ?_ ?_, fun hmode hfull => row ?_ (.refl s) ?_⟩
  · have ready : takeoverReady s = true := by
      have room : 2 ≤ freePlaces s := by
        simp only [freePlaces, Config.strikePlaces]
        omega
      simp [takeoverReady, htake, hcorrection, hl, hmode, room]
    rw [tryTakeover, if_pos ready, carryTakeover, hmode]
    simp only [directFlush_eq, endTakeover_eq, decideGrant_eq, hl]
    rfl
  · exact (State.SameMechanism.of_seq (returned_seq s)).trans (sameMechanism_queued ..)
  · change (s.comp.printLine.isSome && s.returned.comp.printLine.isNone) = false
    rw [returned_printLine]
    cases s.comp.printLine <;> rfl
  · have ready : takeoverReady s = true := by simp [takeoverReady, htake, hcorrection, hl, hmode, hfree]
    rw [tryTakeover, if_pos ready, carryTakeover, hmode]
    simp only [endTakeover_eq, decideGrant_eq, hl]
    rfl
  · exact release_sameMechanism ..
  · rw [hfree]
    rfl
  · have notReady : takeoverReady s = false := by
      have full : ¬2 ≤ freePlaces s := by
        simp only [freePlaces, Config.strikePlaces]
        omega
      simp [takeoverReady, htake, hcorrection, hl, hmode, full]
    rw [tryTakeover, if_neg (by simp [notReady])]
  · cases s.comp.printLine <;> rfl

/-- Settles O18, by the room for two entries and by the mode. -/
theorem impliedFlushAndTakeover : Obligations.ImpliedFlushAndTakeover := ⟨impliedFlushPlaced, timerAndTakeover⟩

end Sys2Proof.Proofs

/-! ## The mechanism: completions, failures, homing, sensors -/

namespace Sys2Proof.Machine

/-! ### The begin tests of an event (R72) -/

theorem settle_of_nothing {s : State} (h : beginTest s = .nothing) : settle false s = s := by
  change settleLoop (s.seq.queue.length + 8191 + 1) false s = s
  simp [settleLoop, h]

theorem beginTest_of_nothingToBegin {s : State} (h : s.NothingToBegin) (hflight : s.seq.inflight = none) : beginTest s = .nothing := by
  obtain ⟨hhoming, hhead⟩ := h
  unfold beginTest
  split
  · rfl
  · split
    · rename_i hrequest
      rw [if_pos (hhoming hrequest)]
    · rw [hflight]
      cases hqueue : s.seq.queue with
      | nil => rfl
      | cons e rest => simp [hhead e (by simp [hqueue])]

/-- R72: the entry in flight is over, and nothing may begin after it. -/
theorem settle_of_nothingToBegin {s t : State} (h : s.NothingToBegin) (hqueue : t.seq.queue = s.seq.queue)
    (hholds : t.seq.holds = s.seq.holds) (hrequest : t.seq.homingRequest = s.seq.homingRequest) (hflight : t.seq.inflight = none) :
    settle false t = t := by
  refine settle_of_nothing (beginTest_of_nothingToBegin ?_ hflight)
  unfold State.NothingToBegin
  rw [hqueue, hholds, hrequest]
  exact h

/-- One entry or a homing begins, and the mechanism is busy with it. -/
theorem settle_of_began {s u : State} (h : beginTest s = .began false u) (hbusy : u.Engaged) : settle false s = u := by
  change settleLoop (s.seq.queue.length + 8190 + 1 + 1) false s = u
  simp [settleLoop, h, beginTest_engaged u hbusy]

theorem settle_of_freed {s u : State} (h : beginTest s = .began true u) (hfreed : onFreed u = u) (hbusy : u.Engaged) :
    settle false s = u := by
  change settleLoop (s.seq.queue.length + 8190 + 1 + 1) false s = u
  simp [settleLoop, h, hfreed, beginTest_engaged u hbusy]

/-- R26, R62: a freed place nobody waits for. -/
theorem onFreed_of_nobodyWaits {s : State} (h : s.NobodyWaits) : onFreed s = s := by
  obtain ⟨hprint, hcorrection, hflush, htakeover, hhead⟩ := h
  have fed : feed s = s := by simp [feed, feedPrintLine, closePrintLine, hprint]
  have corrected : correctionWork s = s := by simp [correctionWork, hcorrection]
  have flushed : tryFlush s = s := tryFlush_waits s (.inl hflush)
  have takenOver : tryTakeover s = s := by simp [tryTakeover, takeoverReady, htakeover]
  simp [onFreed, fed, corrected, flushed, takenOver, retryHead, hhead]

theorem correctionEnded_of_same {s t : State} (h : t.comp.correction = s.comp.correction) : correctionEnded s t = false := by
  rw [correctionEnded, h]
  cases s.comp.correction <;> rfl

/-- A signal's row, when no correction ends by it and no begin test follows. -/
theorem leaves_signal {s u : State} {f : State → State} (hu : f s = u) (hcorrection : u.comp.correction = s.comp.correction)
    (hsettled : settle false u = u) : ∃ t, done s (afterSignal s (f s)) = .next t ∧ Leaves s t u := by
  have made : afterSignal s (f s) = u := by rw [afterSignal, hu, correctionEnded_of_same hcorrection, hsettled]
  rw [made]
  exact leaves_done s u

theorem engaged_of_moving {s : State} (h : s.seq.moving = true) : s.Engaged := .inr (.inr h)

theorem moving_of_flight {q : Sequencer} {f : InFlight} (h : q.inflight = some f) (hf : f.stopped = false) : q.moving = true := by
  simp [Sequencer.moving, h, hf]

/-! ### Completions (R74 to R81, R103, R125) -/

theorem completeEntry_print {f : InFlight} {p : PrintStrike} (s : State) (hkept : f.discard = false) (h : f.entry = .print p) :
    completeEntry f s = completePrint p f (endFlight s) := by simp [completeEntry, hkept, h]

theorem completeEntry_lift {f : InFlight} {l : LiftStrike} (s : State) (hkept : f.discard = false) (h : f.entry = .lift l) :
    completeEntry f s = completeLift l (endFlight s) := by simp [completeEntry, hkept, h]

theorem completeEntry_move {f : InFlight} {x : Nat} (s : State) (hkept : f.discard = false) (h : f.entry = .move x) :
    completeEntry f s = endFlight s := by simp [completeEntry, hkept, h]

theorem completeEntry_feed {f : InFlight} {amount : Int} {result : Nat} (s : State) (hkept : f.discard = false)
    (h : f.entry = .feed amount result) : completeEntry f s = completeFeed result f.clamped (endFlight s) := by
  simp [completeEntry, hkept, h]

theorem settledMotion_carriage {s : State} {f : InFlight} (hm : s.seq.motion = .carriage) (hf : s.seq.inflight = some f) :
    settledMotion .carriage s = afterCarriage f (s.setSeq { s.seq with carriage := f.entry.target }) := by
  simp [settledMotion, hm, hf]

theorem afterCarriage_print {f : InFlight} {p : PrintStrike} (s : State) (h : f.entry = .print p) :
    afterCarriage f s = turnWheel f true s := by simp [afterCarriage, h]

theorem afterCarriage_lift {f : InFlight} {l : LiftStrike} (s : State) (h : f.entry = .lift l) :
    afterCarriage f s = turnWheel f true s := by simp [afterCarriage, h]

theorem settledMotion_wheel {s : State} {f : InFlight} {pulses : Nat} (hm : s.seq.motion = .wheel pulses)
    (hf : s.seq.inflight = some f) (hpulses : pulses = (if crossesIndex s.seq.petal f.petal then 1 else 0)) :
    settledMotion .wheel s = completeEntry f (s.setSeq { s.seq with petal := f.petal }) := by
  simp [settledMotion, hm, hf, hpulses]

theorem settledMotion_feed {s : State} {f : InFlight} (hm : s.seq.motion = .feed) (hf : s.seq.inflight = some f) :
    settledMotion .feed s = completeEntry f s := by simp [settledMotion, hm, hf]

/-- R74: a rotation of a distance begins. -/
theorem turnWheel_turns {f : InFlight} {first : Bool} {s : State} (h : (f.petal + 100 - s.seq.petal % 100) % 100 ≠ 0) :
    turnWheel f first s = startMotion { f with step := .wheel } (.wheel 0) first s := by
  have distance : rotationDistance s.seq.petal f.petal ≠ 0 := h
  simp [turnWheel, distance]

theorem tellStrike_landed {g : Nat} {s : State} (h : s.seq.inflight = none) :
    tellStrike g s =
      if s.seq.queue.any (SEntry.isPrintOf g) then s
      else s.setEntries (s.entries.map fun e => if e.group = some g ∧ e.state = .pending then { e with state := .struck } else e) := by
  simp [tellStrike, printOutstanding, printInFlight, h]

theorem respell_correction (s : State) : (respell s).comp.correction = s.comp.correction := by
  unfold respell
  split
  · rfl
  · simp only [refreshMarkers, setEntries_comp]

theorem tellLift_correction (g : Nat) (s : State) : (tellLift g s).comp.correction = s.comp.correction := by
  unfold tellLift
  split
  · rfl
  · split
    · rw [respell_correction, setEntries_comp]
    · rfl

theorem tellStrike_correction (g : Nat) (s : State) : (tellStrike g s).comp.correction = s.comp.correction := by
  unfold tellStrike
  split <;> rfl

theorem le_foldl_max {n : Nat} : ∀ (ns : List Nat) (a : Nat), n ≤ a ∨ n ∈ ns → n ≤ ns.foldl max a := by
  intro ns
  induction ns with
  | nil => simp
  | cons m rest ih =>
    intro a h
    refine ih (max a m) ?_
    rcases h with h | h
    · exact .inl (h.trans (le_max_left ..))
    · rcases List.mem_cons.1 h with rfl | h
      · exact .inl (le_max_right ..)
      · exact .inr h

/-- R99: the reference of a new record is above every one in use. -/
theorem freshRef_not_in_use (s : State) : freshRef s ∉ refsInUse s := fun h => by
  have := le_foldl_max (refsInUse s) 0 (.inr h)
  rw [freshRef] at this
  omega

/-! ### Failures (R82 to R84) -/

theorem failMotion_retry {s : State} {axis : Axis} (haxis : s.seq.motion.axis = some axis) (hleft : s.seq.attempts < 2) :
    failMotion s = retryMotion s.seq.motion (s.setSeq { s.seq with attempts := s.seq.attempts + 1 }) := by
  have more : s.seq.attempts + 1 < 3 := by omega
  simp [failMotion, haxis, State.setSeq, more]

theorem failMotion_fault {s : State} {axis : Axis} (haxis : s.seq.motion.axis = some axis) (hspent : 2 ≤ s.seq.attempts) :
    failMotion s = enterFault axis (s.setSeq { s.seq with attempts := s.seq.attempts + 1 }) := by
  have none : ¬s.seq.attempts + 1 < 3 := by omega
  simp [failMotion, haxis, State.setSeq, none]

theorem settledMotion_miscounted {s : State} {f : InFlight} {pulses : Nat} (hm : s.seq.motion = .wheel pulses)
    (hf : s.seq.inflight = some f) (hpulses : pulses ≠ (if crossesIndex s.seq.petal f.petal then 1 else 0)) :
    settledMotion .wheel s = failMotion s := by
  simp [settledMotion, hm, hf, hpulses]

/-- A busy mechanism is busy with another motion too, when neither is a homing's. -/
theorem engaged_setMotion {s : State} {m : Motion} {n : Nat} (hbusy : s.Engaged) (hm : s.seq.homing = false) :
    State.Engaged { s with seq := { s.seq with attempts := n, motion := m } } := by
  rcases hbusy with hfault | hhoming | hmoving
  · exact .inl hfault
  · exact absurd (hm.symm.trans hhoming) nofun
  · exact .inr (.inr hmoving)

/-! ### Homing (R87 to R89) -/

theorem leaveHold_absent {h : Hold} {s : State} (hout : s.seq.holds.get h = false) : leaveHold h s = s := by
  simp [leaveHold, leaveHoldAs, hout]

theorem joinHold_present {h : Hold} {s : State} (hin : s.seq.holds.get h = true) : joinHold h s = s := by
  simp [joinHold, hin]

/-- R94: the reason joins, with its report. -/
theorem joinHold_joins {h : Hold} {s : State} (hout : s.seq.holds.get h = false) :
    joinHold h s =
      (let q := { s.seq with holds := s.seq.holds.put h true }
      { s with seq := q, con := { s.con with reports := s.con.reports.add ⟨.mech (.joined h) q.holds q.stateAfterChange, 0, true⟩ } }) := by
  simp [joinHold, hout, queueRecord]

theorem leaveHold_leaves {h : Hold} {s : State} (hin : s.seq.holds.get h = true) :
    leaveHold h s =
      (let q := { s.seq with holds := s.seq.holds.put h false }
      { s with seq := q, con := { s.con with reports := s.con.reports.add ⟨.mech (.left h) q.holds q.stateAfterChange, 0, false⟩ } }) := by
  simp [leaveHold, leaveHoldAs, hin, queueRecord]

theorem stateAfterChange_homing {q : Sequencer} (hfault : q.fault = false) (hhoming : q.homing = true) :
    q.stateAfterChange = .homing := by
  simp [Sequencer.stateAfterChange, hfault, hhoming]

theorem stateAfterChange_requested {q : Sequencer} (hfault : q.fault = false) (hhoming : q.homing = false)
    (hmoving : q.moving = false) (hrequest : q.homingRequest = true) (hcover : q.holds.coverOpen = false) :
    q.stateAfterChange = .homing := by
  simp [Sequencer.stateAfterChange, hfault, hhoming, hmoving, hrequest, hcover]

theorem stateAfterChange_candidate {q : Sequencer} {e : SEntry} (hfault : q.fault = false) (hhoming : q.homing = false)
    (hmoving : q.moving = false) (hrequest : q.homingRequest = false) (hfirst : q.candidate = some e)
    (hholds : q.holds.holds e = false) : q.stateAfterChange = .running := by
  simp [Sequencer.stateAfterChange, hfault, hhoming, hmoving, hrequest, hfirst, hholds]

theorem stateAfterChange_engaged {s : State} (h : s.Engaged) :
    s.seq.stateAfterChange = if s.seq.fault then .fault else if s.seq.homing then .homing else .running := by
  unfold Sequencer.stateAfterChange
  split
  · rfl
  · split
    · rfl
    · rename_i hfault hhoming
      have moving : s.seq.moving = true := by
        rcases h with h | h | h
        · exact absurd h hfault
        · exact absurd h hhoming
        · exact h
      rw [if_pos moving]

/-- R89: with no PRINT queued or stopped there is no pitch to differ. -/
theorem pitchTest_of_empty {d : Descriptor} {s : State} (hqueue : s.seq.queue = []) (hflight : s.seq.inflight = none)
    (hpitch : s.seq.holds.pitchChanged = false) : pitchTest d s = s := by
  simp only [pitchTest, pitchDiffers, hqueue, hflight, List.any_nil, Option.any_none, Bool.or_self]
  exact leaveHold_absent hpitch

/-- R88: the mounted code read, with WHEEL CHANGED for a new one. -/
def State.hubRead (code : Nat) (s : State) : State :=
  { s with
    seq := { s.seq with mounted := code }
    con := { s.con with
      reports := if code = s.seq.mounted then s.con.reports else s.con.reports.add ⟨.wheelChanged s.seq.mounted code, 0, false⟩ } }

theorem readHub_eq (code : Nat) (s : State) : readHub code s = wheelLookup (s.hubRead code) := by
  unfold readHub State.hubRead
  dsimp only
  split <;> rfl

/-- R88: a homing ends with a code that no descriptor holds. -/
theorem finishHoming_undefined {code : Nat} {s : State} (hd : findDescriptor s.wheels code = none)
    (hundefined : s.seq.holds.wheelUndefined = true) :
    finishHoming code s = (s.hubRead code).setSeq { (s.hubRead code).seq with motion := .rest } := by
  have noDescriptor : (s.hubRead code).descriptor = none := hd
  have looked : readHub code s = s.hubRead code := by
    rw [readHub_eq, wheelLookup, noDescriptor]
    exact joinHold_present hundefined
  have still : ((s.hubRead code).setSeq { (s.hubRead code).seq with motion := .rest }).descriptor = none := hd
  simp only [finishHoming, looked, still]

theorem finishHoming_tested {code : Nat} {s v : State} {d : Descriptor} (h : readHub code s = v) (hd : v.descriptor = some d) :
    finishHoming code s = pitchTest d (v.setSeq { v.seq with motion := .rest }) := by
  have still : (v.setSeq { v.seq with motion := .rest }).descriptor = some d := hd
  simp only [finishHoming, h, still]

/-- R88, R89: a homing ends with a code that has a descriptor, and no PRINT for the pitch test. -/
theorem finishHoming_defined {code : Nat} {s : State} {d : Descriptor} (hd : findDescriptor s.wheels code = some d)
    (hfault : s.seq.fault = false) (hhoming : s.seq.homing = true) (hundefined : s.seq.holds.wheelUndefined = true)
    (hqueue : s.seq.queue = []) (hflight : s.seq.inflight = none) (hpitch : s.seq.holds.pitchChanged = false) :
    finishHoming code s =
      (let u := s.hubRead code
      let holds := { s.seq.holds with wheelUndefined := false }
      { u with
        seq := { u.seq with holds := holds, motion := .rest }
        con := { u.con with reports := u.con.reports.add ⟨.mech (.left .wheelUndefined) holds .homing, 0, false⟩ } }) := by
  have descriptor : (s.hubRead code).descriptor = some d := hd
  have looked : readHub code s = leaveHold .wheelUndefined (s.hubRead code) := by
    rw [readHub_eq, wheelLookup, descriptor]
    rfl
  have leaves := leaveHold_leaves (h := .wheelUndefined) (s := s.hubRead code) hundefined
  have state := stateAfterChange_homing
    (q := { (s.hubRead code).seq with holds := (s.hubRead code).seq.holds.put .wheelUndefined false }) hfault hhoming
  dsimp only at leaves
  rw [state] at leaves
  rw [finishHoming_tested (looked.trans leaves) descriptor]
  exact pitchTest_of_empty hqueue hflight hpitch

/-! ### Sensors (R86, R93) -/

/-- R93: a reason leaves while the mechanism is busy. -/
theorem settle_leaveHold_engaged {h : Hold} {s : State} (hbusy : s.Engaged) :
    settle false (leaveHold h s) =
      if s.seq.holds.get h then
        { s with
          seq := { s.seq with holds := s.seq.holds.put h false }
          con := { s.con with
            reports := s.con.reports.add ⟨.mech (.left h) (s.seq.holds.put h false)
              (if s.seq.fault then .fault else if s.seq.homing then .homing else .running), 0, false⟩ } }
      else s := by
  cases hin : s.seq.holds.get h with
  | false =>
    rw [leaveHold_absent hin]
    exact settle_engaged s hbusy
  | true =>
    have state := stateAfterChange_engaged (s := { s with seq := { s.seq with holds := s.seq.holds.put h false } }) hbusy
    rw [leaveHold_leaves hin, if_pos rfl]
    dsimp only at state ⊢
    rw [state]
    exact settle_engaged _ hbusy

end Sys2Proof.Machine

namespace Sys2Proof.Proofs
open Sys2Proof.Machine

theorem settledCarriageAndFeed : Sys2Proof.Claims.SettledCarriageAndFeed := by
  intro s f hflight hkept
  refine ⟨fun x hm hentry hnothing => ?_, fun p hm hentry hmoving hfar => ?_, fun l hm hentry hmoving hfar => ?_,
    fun amount result hm hentry hnothing => ?_⟩
  · refine leaves_signal (f := settledMotion .carriage) ?_ ?_ ?_
    · rw [settledMotion_carriage hm hflight, afterCarriage, hentry]
      exact completeEntry_move _ hkept hentry
    · rfl
    · exact settle_of_nothingToBegin hnothing rfl rfl rfl rfl
  · refine leaves_signal (f := settledMotion .carriage) ?_ ?_ ?_
    · rw [settledMotion_carriage hm hflight, afterCarriage_print _ hentry, show f.entry.target = p.pos by rw [hentry]; rfl]
      exact turnWheel_turns hfar
    · rfl
    · exact settle_engaged _ (engaged_of_moving (moving_of_flight rfl hmoving))
  · refine leaves_signal (f := settledMotion .carriage) ?_ ?_ ?_
    · rw [settledMotion_carriage hm hflight, afterCarriage_lift _ hentry, show f.entry.target = l.pos by rw [hentry]; rfl]
      exact turnWheel_turns hfar
    · rfl
    · exact settle_engaged _ (engaged_of_moving (moving_of_flight rfl hmoving))
  · refine leaves_signal (f := settledMotion .feed) ?_ ?_ ?_
    · rw [settledMotion_feed hm hflight, completeEntry_feed _ hkept hentry, completeFeed]
      cases f.clamped <;> rfl
    · rfl
    · exact settle_of_nothingToBegin hnothing rfl rfl rfl rfl

theorem printCompletes : Sys2Proof.Claims.PrintCompletes := by
  intro s f p pulses hflight hkept hentry hm hpulses hcorrection hnothing
  let s1 := endFlight (s.setSeq { s.seq with petal := f.petal })
  have fresh : freshRef s1 ∉ refsInUse s := by
    have same : refsInUse s = refsInUse s1 := by
      simp [refsInUse, s1, endFlight, State.setSeq, hflight, hentry]
    rw [same]
    exact freshRef_not_in_use s1
  have completed : settledMotion .wheel s =
      tellStrike p.group { s1 with
        mem := fileRecord p.vpos ⟨freshRef s1, p.group, p.role, p.pos, f.petal, f.wheel, p.code, f.impression⟩ s.mem } := by
    rw [settledMotion_wheel hm hflight hpulses, completeEntry_print _ hkept hentry, completePrint, strikeOver, resumeCorrection,
      if_neg]
    · rfl
    · rw [tellStrike_correction]
      change ¬Option.any _ s.comp.correction = true
      simp [hcorrection]
  have row := leaves_signal (f := settledMotion .wheel) completed (tellStrike_correction ..)
    (settle_of_nothingToBegin hnothing (by rw [tellStrike_seq]; rfl) (by rw [tellStrike_seq]; rfl) (by rw [tellStrike_seq]; rfl)
      (by rw [tellStrike_seq]; rfl))
  rw [tellStrike_landed rfl] at row
  obtain ⟨t, ht, leaves⟩ := row
  exact ⟨t, freshRef s1, ht, fresh, leaves⟩

theorem liftCompletes : Sys2Proof.Claims.LiftCompletes := by
  intro s f l pulses hflight hkept hentry hm hpulses hnothing u without
  have completed : settledMotion .wheel s = completeLift l u := by
    rw [settledMotion_wheel hm hflight hpulses, completeEntry_lift _ hkept hentry]
    rfl
  have told (g : Nat) (m : List LineSlot) (h : completeLift l u = tellLift g { u with mem := m }) :
      ∃ t, exec (.settledSignal .wheel) s = .next t ∧ Leaves s t (tellLift g { u with mem := m }) :=
    leaves_signal (f := settledMotion .wheel) (completed.trans h) (tellLift_correction ..)
      (settle_of_nothingToBegin hnothing (by rw [tellLift_seq]) (by rw [tellLift_seq]) (by rw [tellLift_seq]) (by rw [tellLift_seq]))
  refine ⟨fun ref href => told _ _ ?_, fun hnone r hr => told _ _ ?_, fun hnone hr => ?_⟩
  · simp only [completeLift, href]
    rfl
  · have found : recordUnder u u.seq.vpos l.pos l.code = some r := hr
    simp only [completeLift, hnone, found]
    rfl
  · have found : recordUnder u u.seq.vpos l.pos l.code = none := hr
    refine leaves_signal (f := settledMotion .wheel) (completed.trans ?_) rfl
      (settle_of_nothingToBegin hnothing rfl rfl rfl rfl)
    simp only [completeLift, hnone, found]

/-- Settles O27, by the kind of the entry in flight. -/
theorem entriesComplete : Obligations.EntriesComplete := ⟨settledCarriageAndFeed, printCompletes, liftCompletes⟩

/-- Settles O28, by the axis of the motion. -/
theorem thirdFailureIsFault : Obligations.ThirdFailureIsFault := by
  unfold Obligations.ThirdFailureIsFault
  intro s axis hspent hkept haxis stopped event
  have motionAxis : s.seq.motion.axis = some axis := by
    rcases haxis with ⟨rfl, h | h | h⟩ | ⟨rfl, h | ⟨n, h⟩⟩ | ⟨rfl, h⟩ <;> rw [h] <;> rfl
  have noDiscard : s.seq.inflight.any InFlight.discard = false := by
    cases h : s.seq.inflight with
    | none => rfl
    | some f => exact hkept f (by simp [h])
  have told : faultEvent axis (stopped.map InFlight.entry) = event := by
    unfold event stopped
    cases h : s.seq.inflight with
    | none => rfl
    | some f => cases he : f.entry <;> simp [faultEvent, SEntry.kindCode, he]
  refine leaves_signal (f := failMotion) ?_ rfl (settle_engaged _ (.inl rfl))
  rw [failMotion_fault motionAxis hspent, enterFault, if_neg]
  · rw [← told]
    rfl
  · change ¬s.seq.inflight.any InFlight.discard = true
    simp [noDiscard]

theorem failedAttemptIsRetried : Sys2Proof.Claims.FailedAttemptIsRetried := by
  intro s hbusy hleft failed
  -- a motion's attempt fails, and the next attempt's motion follows
  have retried {axis : Axis} {m : Motion} (haxis : s.seq.motion.axis = some axis)
      (hretry : retryMotion s.seq.motion (s.setSeq { s.seq with attempts := s.seq.attempts + 1 }) = failed m) :
      failMotion s = failed m := (failMotion_retry haxis hleft).trans hretry
  have row {m : Motion} (h : failMotion s = failed m) (hengaged : (failed m).Engaged) :
      ∃ t, exec .motionLimitExpiry s = .next t ∧ Leaves s t (failed m) :=
    leaves_signal (f := failMotion) h rfl (settle_engaged _ hengaged)
  refine ⟨fun hm => ?_, fun n hm hmoving => ?_, fun hm => ?_, fun hm hrequest => ?_, fun f n hm hflight hmoving hpulses => ?_⟩
  · have still : s.seq.homing = false := by rcases hm with h | h <;> simp [Sequencer.homing, h]
    refine row (retried (axis := .carriage) ?_ ?_) (engaged_setMotion hbusy still) <;> rcases hm with h | h <;> rw [h] <;> rfl
  · refine row (retried (axis := .wheel) ?_ ?_) (engaged_of_moving hmoving) <;> rcases hm with h | h <;> rw [h] <;> rfl
  · have still : s.seq.homing = false := by simp [Sequencer.homing, hm]
    have same : failed .feed = failed s.seq.motion := by rw [hm]
    rw [same]
    refine row (retried (axis := .feed) ?_ ?_) (engaged_setMotion hbusy still)
    · rw [hm]
      rfl
    · exact (congrArg (fun m => retryMotion m _) hm).trans rfl
  · have homing : s.seq.homing = true := by simp [Sequencer.homing, hm]
    have same : failed .homeCarriage = failed s.seq.motion := by rw [hm]
    rw [same]
    refine row (retried (axis := .carriage) ?_ ?_) (.inr (.inl homing))
    · rw [hm]
      rfl
    · refine (congrArg (fun m => retryMotion m _) hm).trans (if_neg ?_)
      change ¬s.seq.homingRequest = true
      simp [hrequest]
  · have failedNow : failMotion s = failed .rehomeWheel := by
      refine retried (axis := .wheel) ?_ ?_ <;> rw [hm] <;> rfl
    exact leaves_signal (f := settledMotion .wheel) ((settledMotion_miscounted hm hflight hpulses).trans failedNow) rfl
      (settle_engaged _ (engaged_of_moving (moving_of_flight hflight hmoving)))

theorem indexAndHomeSignals : Sys2Proof.Claims.IndexAndHomeSignals := by
  intro s hub
  have pulse {u : State} (h : pulseSeen hub.val s = u) (hcorrection : u.comp.correction = s.comp.correction)
      (hmoving : u.seq.moving = true) : ∃ t, exec (.indexPulse hub) s = .next t ∧ Leaves s t u :=
    leaves_signal (f := pulseSeen hub.val) h hcorrection (settle_engaged _ (engaged_of_moving hmoving))
  -- the carriage, re-homed, is driven again to an entry's position
  have driven {f : InFlight} {x : Nat} (hm : s.seq.motion = .rehomeCarriage) (hflight : s.seq.inflight = some f)
      (hmoving : f.stopped = false) (htarget : f.entry.target = x) (hx : x ≠ 0) :
      ∃ t, exec .carriageHome s = .next t ∧ Leaves s t { s with seq := { s.seq with carriage := 0, motion := .carriage } } := by
    refine leaves_signal (f := homeSignal) ?_ rfl (settle_engaged _ (engaged_of_moving (moving_of_flight hflight hmoving)))
    have away : ¬0 = f.entry.target := by
      rw [htarget]
      exact hx.symm
    simp only [homeSignal, hm, hflight, driveCarriage, State.setSeq, if_neg away, startMotion]
    simp
  refine ⟨fun n hm hmoving => pulse ?_ rfl hmoving, fun f hm hflight hmoving hfar => pulse ?_ rfl (moving_of_flight rfl hmoving),
    fun f x hm hflight hmoving hentry => driven hm hflight hmoving (by rw [hentry]; rfl),
    fun f p hm hflight hmoving hentry => driven hm hflight hmoving (by rw [hentry]; rfl),
    fun f l hm hflight hmoving hentry => driven hm hflight hmoving (by rw [hentry]; rfl), fun hm hrequest => ?_⟩
  · simp only [pulseSeen, hm]
    rfl
  · simp only [pulseSeen, hm, hflight]
    rw [turnWheel_turns]
    · rfl
    · change (f.petal + 100 - 0 % 100) % 100 ≠ 0
      omega
  · refine leaves_signal (f := homeSignal) ?_ rfl (settle_engaged _ (.inr (.inl rfl)))
    simp only [homeSignal, hm, homedCarriage, hrequest]
    rfl

/-- Settles O29, by the motion whose attempt failed or whose signal came. -/
theorem motionsRetried : Obligations.MotionsRetried := ⟨failedAttemptIsRetried, indexAndHomeSignals⟩

/-- Settles O30, by whether the index was seen and the hub code has a descriptor. -/
theorem homingReadsTheWheel : Obligations.HomingReadsTheWheel := by
  unfold Obligations.HomingReadsTheWheel
  intro s hub hm hrequest hfault hqueue hflight habsent hundefined hpitch changed ended absent defined
  have homing : s.seq.homing = true := by simp [Sequencer.homing, hm]
  have row {f : State → State} {u : State} (hu : f s = u) (hcorrection : u.comp.correction = s.comp.correction)
      (hq : u.seq.queue = []) (hi : u.seq.inflight = none) (hr : u.seq.homingRequest = false) :
      ∃ t, done s (afterSignal s (f s)) = .next t ∧ Leaves s t u :=
    leaves_signal hu hcorrection
      (settle_of_nothing (beginTest_of_nothingToBegin ⟨fun h => absurd (hr.symm.trans h) nofun, by simp [hq]⟩ hi))
  have seen : pulseSeen hub.val s = finishHoming hub.val (s.setSeq { s.seq with petal := 0 }) := by
    simp only [pulseSeen, hm, homedWheel, hrequest]
    rw [leaveHold_absent (by exact habsent)]
    rfl
  refine ⟨fun hd => ?_, fun d hd => ?_, fun hd => ?_⟩
  · exact row (f := pulseSeen hub.val) (seen.trans (finishHoming_undefined hd hundefined)) rfl hqueue hflight hrequest
  · exact row (f := pulseSeen hub.val) (seen.trans (finishHoming_defined (s := s.setSeq { s.seq with petal := 0 }) hd hfault homing
      hundefined hqueue hflight hpitch)) rfl hqueue hflight hrequest
  · have joined := joinHold_joins (h := .wheelAbsent) (s := s) habsent
    have state := stateAfterChange_homing (q := { s.seq with holds := s.seq.holds.put .wheelAbsent true }) hfault homing
    dsimp only at joined
    rw [state] at joined
    have event : searchExpiryEvent s = afterSignal s (indexNotFound s) := if_pos hm
    change ∃ t, done s (searchExpiryEvent s) = .next t ∧ _
    rw [event]
    refine row (f := indexNotFound) ?_ rfl hqueue hflight hrequest
    rw [indexNotFound, if_neg (by simp [hrequest]), joined]
    exact finishHoming_undefined hd hundefined

theorem sensorReasonsJoin : Sys2Proof.Claims.SensorReasonsJoin := by
  intro s joined cover
  -- a reason joins, in the state the event has made of the rest
  have row (row : Instr) (h : Hold) (u : State) (hrow : exec row s = done s (joinHold h u)) :
      ∃ t, exec row s = .next t ∧ Leaves s t (if u.seq.holds.get h then u else joined h u) := by
    rw [hrow]
    exact leaves_done s _
  have covered : (if s.seq.homing then requestHoming s else s) = cover := by
    cases h : s.seq.homing <;> simp [cover, h, requestHoming, State.setSeq]
  refine ⟨row _ .coverOpen cover (by rw [← covered]; rfl), row _ .paperOut s rfl, row _ .paperReleased s rfl, row _ .ribbonOut s rfl,
    row _ .tapeOut s rfl⟩

theorem sensorReasonsLeave : Sys2Proof.Claims.SensorReasonsLeave := by
  intro s left busy
  refine ⟨fun hbusy => ?_, fun hfault hhoming hmoving hcover => ?_⟩
  · have row (row : Instr) (h : Hold) (u : State) (hrow : exec row s = done s (settle false (leaveHold h u)))
        (hsame : u.seq.fault = s.seq.fault ∧ u.seq.motion = s.seq.motion ∧ u.seq.inflight = s.seq.inflight) :
        ∃ t, exec row s = .next t ∧ Leaves s t (if u.seq.holds.get h then left h u busy else u) := by
      obtain ⟨hfault, hmotion, hflight⟩ := hsame
      have engaged : u.Engaged := engaged_seq s u hbusy hfault hmotion hflight
      have sameBusy : (if u.seq.fault then SeqState.fault else if u.seq.homing then .homing else .running) = busy := by
        rw [hfault, Sequencer.homing, hmotion]
        rfl
      rw [hrow, settle_leaveHold_engaged engaged, sameBusy]
      exact leaves_done s _
    refine ⟨row _ .coverOpen { s with seq := { s.seq with homingRequest := true } } rfl ⟨rfl, rfl, rfl⟩,
      row _ .paperOut s rfl ⟨rfl, rfl, rfl⟩, row _ .paperReleased { s with mem := [] } rfl ⟨rfl, rfl, rfl⟩,
      row _ .ribbonOut s rfl ⟨rfl, rfl, rfl⟩, row _ .tapeOut s rfl ⟨rfl, rfl, rfl⟩⟩
  · let u := requestHoming s
    let v := left .coverOpen s .homing
    have closed : leaveHold .coverOpen u = { v with seq := { v.seq with homingRequest := true } } := by
      have still : Sequencer.moving { u.seq with holds := u.seq.holds.put .coverOpen false } = false := hmoving
      have quiet : Sequencer.homing { u.seq with holds := u.seq.holds.put .coverOpen false } = false := hhoming
      have state : Sequencer.stateAfterChange { u.seq with holds := u.seq.holds.put .coverOpen false } = .homing :=
        stateAfterChange_requested hfault quiet still rfl rfl
      rw [leaveHold_leaves (by exact hcover)]
      dsimp only
      rw [state]
      rfl
    have begun : beginTest { v with seq := { v.seq with homingRequest := true } } =
        .began false { v with seq := { v.seq with homingRequest := false, motion := .homeCarriage, attempts := 0 } } := by
      have quiet : ¬(s.seq.fault || s.seq.homing || s.seq.moving) = true := by simp [hfault, hhoming, hmoving]
      exact (if_neg quiet).trans ((if_pos rfl).trans (if_neg nofun))
    have settled := settle_of_began begun (.inr (.inl rfl))
    change ∃ t, done s (settle false (leaveHold .coverOpen u)) = .next t ∧ _
    rw [closed, settled]
    exact leaves_done s _

/-- Settles O31, by whether the reason stands already. -/
theorem sensorsChangeHolds : Obligations.SensorsChangeHolds := ⟨sensorReasonsJoin, sensorReasonsLeave⟩

/-- Settles O32: the reason leaves, and the one begin test that follows begins the PRINT. -/
theorem printBegins : Obligations.PrintBegins := by
  unfold Obligations.PrintBegins
  intro s p rest d n hqueue hflight hfault hhoming hrequest hholds hnobody hd hn haway cls struck
  let u : State := { s with
    seq := { s.seq with
      queue := rest, holds := Holds.none, motion := .carriage, attempts := 0
      inflight := some ⟨.print p, false, .carriage, n, max 1 (min 4 struck), s.seq.mounted, false, false⟩ }
    con := { s.con with reports := s.con.reports.add ⟨.mech (.left .ribbonOut) Holds.none .running, 0, false⟩ } }
  let v : State := { s with
    seq := { s.seq with holds := Holds.none }
    con := { s.con with reports := s.con.reports.add ⟨.mech (.left .ribbonOut) Holds.none .running, 0, false⟩ } }
  have still : s.seq.moving = false := moving_of_none hflight
  have put : s.seq.holds.put .ribbonOut false = Holds.none := by rw [hholds]; rfl
  have ribbonGone : leaveHold .ribbonOut s = v := by
    have quiet : Sequencer.homing { s.seq with holds := Holds.none } = false := hhoming
    have resting : Sequencer.moving { s.seq with holds := Holds.none } = false := still
    have first : Sequencer.candidate { s.seq with holds := Holds.none } = some (.print p) := by
      simp only [Sequencer.candidate, hflight, hqueue, List.head?_cons]
    have state := stateAfterChange_candidate (q := { s.seq with holds := Holds.none }) hfault quiet resting hrequest first rfl
    rw [leaveHold_leaves (by rw [hholds]; rfl), put]
    dsimp only
    rw [state]
  have resolved : resolvePetal s p.code = some (n, cls) := by
    have descriptor : s.descriptor = some d := hd
    simp only [resolvePetal, descriptor, Option.bind_some, hn, Option.map_some]
    rfl
  have impression : printImpression s.comp.impression cls = max 1 (min 4 struck) := by
    unfold struck
    cases s.comp.impression <;> rfl
  have begins : beginEntry (.print p) (v.setSeq { v.seq with queue := rest }) = u := by
    have found : resolvePetal (v.setSeq { v.seq with queue := rest }) p.code = some (n, cls) := resolved
    simp only [beginEntry, beginPrint, found, driveCarriage]
    refine (if_neg (show ¬s.seq.carriage = p.pos from haway)).trans ?_
    unfold u
    rw [← impression]
    rfl
  have begun : beginTest v = .began true u := by
    have quiet : ¬(s.seq.fault || s.seq.homing || s.seq.moving) = true := by simp [hfault, hhoming, still]
    have queue : v.seq.queue = .print p :: rest := hqueue
    have flight : v.seq.inflight = none := hflight
    refine (if_neg quiet).trans ((if_neg (show ¬s.seq.homingRequest = true by simp [hrequest])).trans ?_)
    rw [queue, flight, ← begins]
    rfl
  have settled := settle_of_freed begun (onFreed_of_nobodyWaits hnobody) (engaged_of_moving rfl)
  change ∃ t, done s (settle false (leaveHold .ribbonOut s)) = .next t ∧ _
  rw [ribbonGone, settled]
  exact leaves_done s u

end Sys2Proof.Proofs

-- ==== Sys2Proof/Proofs/Takes ====
section
/-! SUPPORT. The row of a queued command at the head: taken, refused or waiting (R26, R28), stated for any row. -/

namespace Sys2Proof.Machine

variable {s u : State} {p : Port} {it : QItem} {row : Instr} {mine : QCmd → Bool} {es : List SEntry}

theorem row_taken (hrow : exec row s = .next (takeRow mine s)) (h : s.head = some (p, it)) (hmine : mine it.cmd = true)
    (htry : tryCmd s p it = takePlacing s p it es u) (hseq : u.seq = s.seq)
    (hecho : echoOf it.cmd (impliesReturn s p) = none) (hroom : s.Room it es.length) :
    ∃ t, exec row s = .next t ∧ Leaves s t (u.taken p it es) := by
  have left := leaves_take mine s u p it es h hmine hseq hroom htry
  rw [hecho] at left
  exact ⟨_, hrow, left⟩

theorem row_echoed {c : Byte} {a : Option Byte} (hrow : exec row s = .next (takeRow mine s)) (h : s.head = some (p, it))
    (hmine : mine it.cmd = true) (htry : tryCmd s p it = takePlacing s p it es u) (hseq : u.seq = s.seq)
    (hecho : echoOf it.cmd (impliesReturn s p) = some (c, a)) (hroom : s.Room it es.length) :
    ∃ t, exec row s = .next t ∧ Leaves s t ((u.taken p it es).echoed p it c a) := by
  have left := leaves_take mine s u p it es h hmine hseq hroom htry
  rw [hecho] at left
  exact ⟨_, hrow, left⟩

theorem row_refused {r : Reason} {d : RefusalDetail} (hrow : exec row s = .next (takeRow mine s))
    (h : s.head = some (p, it)) (hmine : mine it.cmd = true) (htry : tryCmd s p it = .refuse s r d) :
    ∃ t, exec row s = .next t ∧ Leaves s t (s.refusedTake p it r d) :=
  ⟨_, hrow, leaves_refuse mine s p it r d h hmine htry⟩

theorem row_waits (hrow : exec row s = .next (takeRow mine s)) (h : s.head = some (p, it)) (hmine : mine it.cmd = true)
    (htry : tryCmd s p it = .wait s) : ∃ t, exec row s = .next t ∧ Leaves s t s.waiting :=
  ⟨_, hrow, leaves_wait mine s p it h hmine htry⟩

end Sys2Proof.Machine
end

-- ==== Sys2Proof/Proofs/SettingRows ====
section
/-! SUPPORT. The rows of the format and settings commands. -/

namespace Sys2Proof.Machine

theorem tryAlign_line {s : State} {p : Port} {it : QItem} {a : Alignment} (hmode : s.comp.mode = .line) :
    tryAlign s p it a = takePlacing s p it [] { s with comp := { s.comp with alignment := some a } } := by
  rw [tryAlign, hmode]
  rfl

theorem tryAlign_direct {s : State} {p : Port} {it : QItem} {a : Alignment} (hmode : s.comp.mode = .direct) :
    tryAlign s p it a = .refuse s .notInMode .plain := by
  rw [tryAlign, hmode]

theorem dropChecks_eq {goes drops : Check → Bool} {discard : Check → Check} {cs : List Check}
    (hdiscard : ∀ c, discard c = if goes c then { c with discarded := true } else c) (hdrops : ∀ c, drops c = !goes c) :
    dropChecks goes cs = (cs.take 1).map discard ++ (cs.drop 1).filter drops := by
  obtain rfl : drops = fun c => !goes c := funext hdrops
  cases cs with
  | nil => rfl
  | cons c rest => simp [dropChecks, hdiscard]

theorem endsBeyond_iff {s : State} {pos : Nat} :
    endsBeyond s pos = true ↔ ∃ e ∈ s.entries, e.state ≠ .lifted ∧ pos < e.pos + e.width := by
  simp only [endsBeyond, List.any_eq_true, Bool.and_eq_true, bne_iff_ne, decide_eq_true_eq]
  rfl

/-- R45: a stop that is not held stands between the stops left of it and the stops right of it. -/
theorem insertStop_eq {pos : Nat} {tabs : List Nat} (hsorted : tabs.Pairwise (· < ·)) (hnew : pos ∉ tabs) :
    insertStop pos tabs = (tabs.filter fun t => decide (t < pos)) ++ pos :: tabs.filter fun t => decide (pos < t) := by
  have split : tabs = (tabs.takeWhile fun t => decide (t < pos)) ++ tabs.dropWhile fun t => decide (t < pos) :=
    List.takeWhile_append_dropWhile.symm
  have below : ∀ t ∈ tabs.takeWhile (fun t => decide (t < pos)), t < pos := fun t ht => by
    simpa using List.mem_takeWhile_imp ht
  have above : ∀ t ∈ tabs.dropWhile (fun t => decide (t < pos)), pos < t := fun t ht =>
    lt_of_le_of_ne (le_of_mem_dropWhile hsorted t ht) fun same => hnew (same ▸ (List.dropWhile_suffix _).subset ht)
  have left : (tabs.filter fun t => decide (t < pos)) = tabs.takeWhile fun t => decide (t < pos) := by
    conv_lhs => rw [split, List.filter_append]
    rw [List.filter_eq_self.2 (by simpa using below), List.filter_eq_nil_iff.2 (by simpa using fun t ht => (above t ht).le),
      List.append_nil]
  have right : (tabs.filter fun t => decide (pos < t)) = tabs.dropWhile fun t => decide (t < pos) := by
    conv_lhs => rw [split, List.filter_append]
    rw [List.filter_eq_nil_iff.2 (by simpa using fun t ht => (below t ht).le), List.filter_eq_self.2 (by simpa using above),
      List.nil_append]
  rw [insertStop, left, right]

end Sys2Proof.Machine

namespace Sys2Proof.Proofs
open Sys2Proof.Machine

theorem formatCommandsTaken : Sys2Proof.Claims.FormatCommandsTaken := by
  rintro s p ⟨cmd, tag, notify⟩ h
  refine ⟨?_, ?_, ?_, ?_, ?_, ?_, ?_, ?_, ?_⟩
  all_goals rintro rfl
  case refine_6 | refine_7 =>
    intro hmode hroom
    exact row_taken rfl h rfl (tryAlign_line hmode) rfl rfl hroom
  case refine_8 | refine_9 =>
    intro hmode
    exact row_refused rfl h rfl (tryAlign_direct hmode)
  all_goals exact row_taken rfl h rfl rfl rfl rfl

theorem settingsTaken : Sys2Proof.Claims.SettingsTaken := by
  rintro s p ⟨cmd, tag, notify⟩ n h
  refine ⟨?_, ?_, ?_, ?_, ?_⟩ <;> rintro rfl
  · refine ⟨fun hlow hhigh => row_taken rfl h rfl (if_pos ⟨hlow, hhigh⟩) rfl rfl,
      fun hout => row_refused rfl h rfl (if_neg (by omega))⟩
  · refine ⟨?_, ?_, ?_, fun hout => row_refused rfl h rfl ?_⟩
    · rintro rfl
      exact row_taken rfl h rfl rfl rfl rfl
    · rintro rfl
      exact row_taken rfl h rfl rfl rfl rfl
    · rintro rfl
      exact row_taken rfl h rfl rfl rfl rfl
    · obtain ⟨k, rfl⟩ := Nat.exists_eq_add_of_le' (show 3 ≤ n from hout)
      rfl
  · exact ⟨fun hin => row_taken rfl h rfl (if_pos hin) rfl rfl, fun hout => row_refused rfl h rfl (if_neg (by omega))⟩
  · exact ⟨fun hin => row_taken rfl h rfl (if_pos hin) rfl rfl, fun hout => row_refused rfl h rfl (if_neg (by omega))⟩
  · refine ⟨?_, ?_, fun hout => row_refused rfl h rfl ?_⟩
    · rintro rfl
      exact row_taken rfl h rfl rfl rfl rfl
    · rintro rfl
      exact row_taken rfl h rfl rfl rfl rfl
    · obtain ⟨k, rfl⟩ := Nat.exists_eq_add_of_le' (show 2 ≤ n from hout)
      rfl

/-- Settles O45, command by command: each is taken whole or refused by its own rule. -/
theorem formatAndSettingsTaken : Obligations.FormatAndSettingsTaken := ⟨formatCommandsTaken, settingsTaken⟩

theorem marginsTaken : Sys2Proof.Claims.MarginsTaken := by
  rintro s p ⟨cmd, tag, notify⟩ x h
  refine ⟨?_, ?_⟩ <;> rintro rfl
  · refine ⟨fun hbad => row_refused rfl h rfl (if_pos hbad), fun htravel hspan hroom => ?_⟩
    have good : ¬(Config.travel < x ∨ s.comp.rm < x + Config.marginSpan) := by
      simp only [Config.travel, Config.marginSpan]
      omega
    cases hline : s.comp.line with
    | none => exact row_taken rfl h rfl ((if_neg good).trans (by rw [hline]; rfl)) rfl rfl hroom
    | some l => exact row_taken rfl h rfl ((if_neg good).trans (by rw [hline]; rfl)) rfl rfl hroom
  · intro bad conflict
    have bad_iff : (Config.travel < x ∨ x < s.comp.lm + Config.marginSpan ∨
        (s.comp.pendingLm.any fun lm => decide (x < lm + Config.marginSpan)) = true) ↔ bad := by
      simp only [Option.any_eq_true, decide_eq_true_eq]
      rfl
    refine ⟨fun hbad => row_refused rfl h rfl (if_pos (bad_iff.2 hbad)), fun hgood hconflict => ?_, fun hgood hfree => ?_⟩
    · exact row_refused rfl h rfl ((if_neg (mt bad_iff.1 hgood)).trans (if_pos (endsBeyond_iff.2 hconflict)))
    · exact row_taken rfl h rfl ((if_neg (mt bad_iff.1 hgood)).trans (if_neg (mt endsBeyond_iff.1 hfree))) rfl rfl

theorem tabStopsTaken : Sys2Proof.Claims.TabStopsTaken := by
  rintro s p ⟨cmd, tag, notify⟩ n h hsorted x taken refused
  refine ⟨?_, ?_, ?_⟩ <;> rintro rfl
  · refine ⟨fun hheld => row_taken rfl h rfl (if_pos hheld) rfl rfl,
      fun hnew hfull => row_refused rfl h rfl ((if_neg hnew).trans (if_pos hfull)),
      fun hnew hfree hout => row_refused rfl h rfl ((if_neg hnew).trans ((if_neg (not_le.2 hfree)).trans (if_pos hout))),
      fun hin hnew hfree => ?_⟩
    have set : tryTabSet s p ⟨.tabStop 0 n, tag, notify⟩ x = takePlacing s p ⟨.tabStop 0 n, tag, notify⟩ []
        { s with comp := { s.comp with tabs := insertStop x s.comp.tabs } } :=
      (if_neg hnew).trans ((if_neg (not_le.2 hfree)).trans (if_neg (not_lt.2 hin)))
    rw [insertStop_eq hsorted hnew] at set
    exact row_taken rfl h rfl set rfl rfl
  · refine ⟨fun hout => row_refused rfl h rfl (if_pos hout), fun hin => ?_⟩
    have same : (fun t => t != x) = fun y => decide (y ≠ x) := by
      funext y
      by_cases hy : y = x <;> simp [hy]
    have cleared : tryTabClear s p ⟨.tabStop 1 n, tag, notify⟩ x = takePlacing s p ⟨.tabStop 1 n, tag, notify⟩ []
        { s with comp := { s.comp with tabs := s.comp.tabs.filter fun y => decide (y ≠ x) } } := by
      rw [← same]
      exact if_neg (not_lt.2 hin)
    exact row_taken rfl h rfl cleared rfl rfl
  · exact row_taken rfl h rfl rfl rfl rfl

/-- Settles O44, by the tests of each command in their order; a new stop stands in its place because the stops are in order. -/
theorem marginsAndTabStopsTaken : Obligations.MarginsAndTabStopsTaken := ⟨marginsTaken, tabStopsTaken⟩

/-- Settles O46, by the value that the command's parameter names. -/
theorem modesTaken : Obligations.ModesTaken := by
  unfold Obligations.ModesTaken
  rintro s p ⟨cmd, tag, notify⟩ n h taken refused
  refine ⟨?_, ?_, ?_⟩ <;> rintro rfl
  · have known (hn : n ≤ 1) : modeOfCode n = some (if n = 0 then .direct else .line) := by
      interval_cases n <;> rfl
    have named (hn : n ≤ 1) : tryMode s p ⟨.mode n, tag, notify⟩ n =
        if s.comp.line.isSome then .refuse s .lineOpen .plain
        else if s.comp.printLine.isSome then .wait s
        else takeSetting s p ⟨.mode n, tag, notify⟩ { s.comp with mode := if n = 0 then .direct else .line } := by
      rw [tryMode, known hn]
    refine ⟨fun hout => row_refused rfl h rfl ?_, fun hn hline => ?_, fun hn hline hfeeding => ?_, fun hn hline hfree => ?_⟩
    · obtain ⟨k, rfl⟩ := Nat.exists_eq_add_of_le' (show 2 ≤ n from hout)
      rfl
    · exact row_refused rfl h rfl ((named hn).trans (if_pos (Option.isSome_iff_ne_none.2 hline)))
    · exact row_waits rfl h rfl ((named hn).trans ((if_neg (by simp [hline])).trans (if_pos (Option.isSome_iff_ne_none.2 hfeeding))))
    · exact row_taken rfl h rfl ((named hn).trans ((if_neg (by simp [hline])).trans (if_neg (by simp [hfree])))) rfl rfl
  · refine ⟨fun hout => row_refused rfl h rfl ?_, ?_, ?_, ?_⟩
    · obtain ⟨k, rfl⟩ := Nat.exists_eq_add_of_le' (show 3 ≤ n from hout)
      rfl
    · rintro rfl
      exact row_taken rfl h rfl rfl rfl rfl
    · rintro rfl
      exact row_taken rfl h rfl rfl rfl rfl
    · rintro rfl
      refine Eq.subst (motive := taken .spellMode) (a := setSpellMode .off s) ?_ (row_taken rfl h rfl rfl rfl rfl)
      simp only [setSpellMode, State.mk.injEq, Spelling.mk.injEq, true_and, and_true]
      refine dropChecks_eq (fun c => ?_) fun c => ?_
      · rcases c with ⟨_, _ | _, _, _⟩ <;> rfl
      · rcases c with ⟨_, _ | _, _, _⟩ <;> rfl
  · refine ⟨fun hout => row_refused rfl h rfl ?_, fun hn => ?_⟩
    · obtain ⟨k, rfl⟩ := Nat.exists_eq_add_of_le' (show 2 ≤ n from hout)
      rfl
    · interval_cases n
      · exact row_taken rfl h rfl rfl rfl rfl
      · exact row_taken rfl h rfl rfl rfl rfl

end Sys2Proof.Proofs
end

-- ==== Sys2Proof/Proofs/TextRows ====
section
/-! SUPPORT. The rows that refuse text, move a position, or return in DIRECT mode. -/

namespace Sys2Proof.Machine

variable {s : State} {p : Port}

theorem impliesReturn_iff : impliesReturn s p = true ↔
    s.comp.mode = .direct ∧ p = .console ∧ 0 < s.comp.zone ∧ s.comp.rm ≤ s.comp.printPoint + s.comp.zone := by
  simp only [impliesReturn, Bool.and_eq_true, beq_iff_eq, decide_eq_true_eq, and_assoc]

theorem lineFull_iff : lineFull s = true ↔ 200 ≤ s.entries.length := decide_eq_true_iff

theorem pastMargin_iff {w : Nat} :
    pastMargin s w = true ↔ (if s.comp.marginRelease then 1800 else s.comp.rm) < s.comp.printPoint + w := decide_eq_true_iff

theorem not_lineFull (h : s.entries.length < 200) : ¬lineFull s = true := by rwa [lineFull_iff, not_le]

theorem not_pastMargin {w : Nat} (h : s.comp.printPoint + w ≤ if s.comp.marginRelease then 1800 else s.comp.rm) :
    ¬pastMargin s w = true := by rwa [pastMargin_iff, not_lt]

/-- R128: the codes that LIFT CHARACTER does not take. -/
theorem space_or_controlCode_iff (c : Byte) :
    (c = 0x20 ∨ controlCode c = true) ↔ c.toNat ≤ 0x20 ∨ 0x7F ≤ c.toNat ∧ c.toNat ≤ 0x9F := by
  have space : c = 0x20 ↔ c.toNat = 32 := by
    constructor
    · rintro rfl
      rfl
    · exact fun h => BitVec.eq_of_toNat_eq h
  simp only [controlCode, space, Bool.or_eq_true, Bool.and_eq_true, decide_eq_true_eq]
  omega

theorem tryReturnDirect_eq (it : QItem) : tryReturnDirect s p it = takePlacing s p it s.returnStrikes s.returned := by
  rw [tryReturnDirect, returnEntries_eq, returnMove_eq]

theorem nextStop_eq_none (h : ∀ x ∈ s.comp.tabs, x ≤ s.comp.printPoint ∨ s.comp.rightBound < x) : nextStop s = none := by
  have none : (s.comp.tabs.filter fun t => decide (s.comp.printPoint < t) && decide (t ≤ s.comp.rightBound)) = [] := by
    rw [List.filter_eq_nil_iff]
    intro x hx
    have := h x hx
    simp only [Bool.and_eq_true, decide_eq_true_eq]
    omega
  rw [nextStop, none]
  rfl

/-- R37: INDEX and REVERSE INDEX where they may move the paper. -/
theorem tryIndex_moves {it : QItem} {down : Bool} (h : s.comp.mode = .direct ∨ s.comp.line = none ∧ s.comp.printLine = none) :
    tryIndex s p it down = takePlacing s p it [.feed (if down then 1 else -1) (indexResult down s.comp.vpos)]
      { s.lineClosed false with
        comp := { (s.lineClosed false).comp with vpos := indexResult down s.comp.vpos } } := by
  rw [tryIndex, closeLine_eq]
  rcases h with h | ⟨hline, hprint⟩
  · simp [h]
  · simp [hline, hprint]

end Sys2Proof.Machine

namespace Sys2Proof.Proofs
open Sys2Proof.Machine

/-- Settles O39, test by test in R30's order: each refusal stands where the tests before it have passed. -/
theorem textRefused : Obligations.TextRefused := by
  unfold Obligations.TextRefused
  rintro s p ⟨cmd, tag, notify⟩ h bound implied refused
  refine ⟨?_, ?_, ?_⟩
  · rintro c rfl hc
    have tests : tryCmd s p ⟨.char c, tag, notify⟩ =
        if controlCode c then .refuse s .badParameter .plain
        else if lineFull s then .refuse s .lineFull .plain
        else if pastMargin s (escapement s.descriptor c) then .refuse s .margin .plain
        else if s.comp.mode = .direct ∧ onDescriptor s.descriptor c = false then .refuse s .notOnWheel .plain
        else takeText s p ⟨.char c, tag, notify⟩ .char c := if_neg hc
    refine ⟨fun hbad => ?_, fun hcode hfull => ?_, fun hcode hfree hpast => ?_, fun hcode hfree hin hmode hwheel => ?_⟩
    · exact row_refused rfl h rfl (tests.trans (if_pos hbad))
    · exact row_refused rfl h rfl (by rw [tests, hcode, lineFull_iff.2 hfull]; rfl)
    · exact row_refused rfl h rfl (by rw [tests, hcode, if_neg nofun, if_neg (not_lineFull hfree), if_pos (pastMargin_iff.2 hpast)])
    · exact row_refused rfl h rfl (by
        rw [tests, hcode, if_neg nofun, if_neg (not_lineFull hfree), if_neg (not_pastMargin hin), if_pos ⟨hmode, hwheel⟩])
  · rintro rfl hplain
    have typed : ¬impliesReturn s p = true := mt impliesReturn_iff.1 hplain
    exact ⟨fun hfull => row_refused rfl h rfl ((if_neg typed).trans (if_pos (lineFull_iff.2 hfull))),
      fun hfree hpast => row_refused rfl h rfl
        ((if_neg typed).trans ((if_neg (not_lineFull hfree)).trans (if_pos (pastMargin_iff.2 hpast))))⟩
  · rintro rfl
    refine ⟨fun hfull => row_refused rfl h rfl (if_pos (lineFull_iff.2 hfull)), fun hfree hnone => ?_⟩
    exact row_refused rfl h rfl ((if_neg (not_lineFull hfree)).trans (by rw [nextStop_eq_none hnone]))

theorem printPointMoves : Sys2Proof.Claims.PrintPointMoves := by
  rintro s p ⟨cmd, tag, notify⟩ h moved
  refine ⟨?_, ?_, ?_, ?_⟩
  · rintro rfl hroom
    exact row_echoed rfl h rfl rfl rfl rfl hroom
  · rintro rfl hroom
    exact row_echoed rfl h rfl rfl rfl rfl hroom
  · rintro rfl hroom
    exact row_echoed rfl h rfl rfl rfl rfl hroom
  · rintro n hn rfl
    obtain ⟨k, rfl⟩ := Nat.exists_eq_add_of_le' hn
    exact ⟨row_refused rfl h rfl rfl, row_refused rfl h rfl rfl⟩

theorem indexMovesThePaper : Sys2Proof.Claims.IndexMovesThePaper := by
  rintro s p ⟨cmd, tag, notify⟩ down h hcmd
  obtain rfl : cmd = if down then .indexDown else .reverseIndex := hcmd
  have tried : tryCmd s p ⟨if down then .indexDown else .reverseIndex, tag, notify⟩ =
      tryIndex s p ⟨if down then .indexDown else .reverseIndex, tag, notify⟩ down := by cases down <;> rfl
  refine ⟨fun hmay hroom => ?_, fun hmode hline => ?_, fun hmode hline hfeeding => ?_⟩
  · have moved := tried.trans (tryIndex_moves hmay)
    cases down with
    | true => exact row_echoed rfl h rfl moved (lineClosed_seq s false) rfl hroom
    | false => exact row_echoed rfl h rfl moved (lineClosed_seq s false) rfl hroom
  · have refused := tried.trans (if_pos ⟨hmode, Option.isSome_iff_ne_none.2 hline⟩)
    cases down with
    | true => exact row_refused rfl h rfl refused
    | false => exact row_refused rfl h rfl refused
  · have waits := tried.trans ((if_neg (by simp [hline])).trans (if_pos ⟨hmode, Option.isSome_iff_ne_none.2 hfeeding⟩))
    cases down with
    | true => exact row_waits rfl h rfl waits
    | false => exact row_waits rfl h rfl waits

/-- Settles O40, command by command. -/
theorem positionsMoved : Obligations.PositionsMoved := ⟨printPointMoves, indexMovesThePaper⟩

/-- Settles O41: all three commands are tried as one RETURN in DIRECT mode. -/
theorem returnInDirectMode : Obligations.ReturnInDirectMode := by
  unfold Obligations.ReturnInDirectMode
  rintro s p it row h hmode hcommand
  -- the row, the command it takes, and that both come to a RETURN
  have tried : ∃ mine, exec row s = .next (takeRow mine s) ∧ mine it.cmd = true ∧
      tryCmd s p it = takePlacing s p it s.returnStrikes s.returned ∧
      echoOf it.cmd (impliesReturn s p) = some (0x46, some 0x0D) := by
    rcases hcommand with ⟨hcmd, hrow⟩ | ⟨hcmd, hrow⟩ | ⟨hcmd, hrow, himplied⟩
    · subst hrow
      exact ⟨isRet, rfl, by rw [hcmd]; rfl, by rw [tryCmd, hcmd, ← tryReturnDirect_eq]; simp only [tryReturn, hmode]; rfl,
        by rw [hcmd]; rfl⟩
    · subst hrow
      exact ⟨isReturnFlush, rfl, by rw [hcmd]; rfl,
        by rw [tryCmd, hcmd, ← tryReturnDirect_eq]; simp only [tryReturn, hmode]; rfl, by rw [hcmd]; rfl⟩
    · subst hrow
      have implied : impliesReturn s p = true := impliesReturn_iff.2 ⟨hmode, himplied⟩
      exact ⟨isSpace, rfl, by rw [hcmd]; rfl, by rw [tryCmd, hcmd, ← tryReturnDirect_eq]; exact if_pos implied,
        by rw [hcmd, implied]; rfl⟩
  obtain ⟨mine, hrow, hmine, htry, hecho⟩ := tried
  exact ⟨fun hroom => row_echoed hrow h hmine htry (returned_seq s) hecho hroom,
    fun hfull hbound => ⟨_, hrow, leaves_wait_places mine s _ p it s.returnStrikes h hmine hfull hbound htry⟩⟩

/-- Settles O50, by the tests of each command in their order. -/
theorem liftCharacterAndRelocate : Obligations.LiftCharacterAndRelocate := by
  unfold Obligations.LiftCharacterAndRelocate
  rintro s p ⟨cmd, tag, notify⟩ h
  refine ⟨?_, ?_⟩
  · rintro c rfl
    refine ⟨fun hbad => row_refused rfl h rfl (if_pos ((space_or_controlCode_iff c).2 hbad)), fun hgood => ?_⟩
    have code := mt (space_or_controlCode_iff c).1 hgood
    refine ⟨fun hwheel => row_refused rfl h rfl ((if_neg code).trans ?_), fun d n hd hn => ?_⟩
    · have gone : (s.descriptor.bind fun d => (d.petalOf c).map fun n => (n, (d.petalAt n).impression)) = none := by
        cases hd : s.descriptor with
        | none => rfl
        | some d =>
          have absent : d.petalOf c = none := by simpa [hd, onDescriptor, Descriptor.onWheel] using hwheel
          rw [Option.bind_some, absent, Option.map_none]
      rw [gone]
    · have descriptor : s.descriptor = some d := hd
      have found : (s.descriptor.bind fun d => (d.petalOf c).map fun n => (n, (d.petalAt n).impression)) =
          some (n, (d.petalAt n).impression) := by rw [descriptor, Option.bind_some, hn, Option.map_some]
      refine ⟨fun hfeeding => row_waits rfl h rfl ((if_neg code).trans ?_), fun hfree => ?_⟩
      · rw [found]
        exact if_pos (Option.isSome_iff_ne_none.2 hfeeding)
      · have lifted : tryLiftCharacter s p ⟨.liftCharacter c, tag, notify⟩ c =
            takePlacing s p ⟨.liftCharacter c, tag, notify⟩ [liftCharacterEntry s p c n (d.petalAt n).impression]
              (setPoint (s.comp.printPoint - escapement s.descriptor c) (s.useGroup s.freeGroup)) := by
          refine (if_neg code).trans ?_
          rw [found]
          exact if_neg (by simp [hfree])
        rw [liftCharacterEntry, descriptor] at lifted
        exact row_taken rfl h rfl lifted rfl rfl
  · rintro rfl
    refine ⟨fun hlive => row_taken rfl h rfl (if_pos hlive) rfl rfl, fun hlive => ?_⟩
    have moved : tryRelocate s p ⟨.relocate, tag, notify⟩ = _ := if_neg hlive
    cases hmode : s.comp.mode with
    | direct => exact row_taken rfl h rfl (moved.trans (by rw [hmode]; rfl)) rfl rfl
    | line => exact row_taken rfl h rfl (moved.trans (by rw [hmode]; rfl)) rfl rfl

end Sys2Proof.Proofs
end

-- ==== Sys2Proof/Proofs/TextTakes ====
section
/-! SUPPORT. CHAR, SPACE and TAB taken: the entry that joins and the strikes of its group. -/

namespace Sys2Proof.Machine

variable {s : State} {p : Port} {it : QItem}

theorem escapement_pos (d : Option Descriptor) (c : Byte) : 0 < escapement d c := by
  have units (x : Pitch) : 0 < x.units := by cases x <;> decide
  unfold escapement
  split
  · decide
  · split
    · exact units _
    · split
      · split
        · simp [classUnits]
        · decide
      · exact units _

/-- R17: an entry that has a width has an underscore. -/
theorem underscorePositions_ne_nil (at_ : Nat) {w uw : Nat} (hw : 0 < w) (huw : 0 < uw) : underscorePositions at_ w uw ≠ [] := by
  unfold underscorePositions
  split
  · exact List.cons_ne_nil _ _
  · have some : 0 < (w + uw - 1) / uw := Nat.div_pos (by omega) huw
    rw [Ne, List.map_eq_nil_iff, List.range_eq_nil]
    omega

theorem leastPos_eq_min? (ps : List Nat) : leastPos ps = ps.min? := by cases ps <;> rfl

theorem nextStop_eq_some {stop : Nat} (hmem : stop ∈ s.comp.tabs) (hright : s.comp.printPoint < stop)
    (hbound : stop ≤ s.comp.rightBound) (hleast : ∀ x ∈ s.comp.tabs, s.comp.printPoint < x → stop ≤ x) :
    nextStop s = some stop := by
  rw [nextStop, leastPos_eq_min?, List.min?_eq_some_iff]
  refine ⟨by simp [hmem, hright, hbound], fun x hx => ?_⟩
  simp only [List.mem_filter, Bool.and_eq_true, decide_eq_true_eq] at hx
  exact hleast x hx.1 hx.2.1

/-! ## The entry -/

theorem textEntry_char (n : Nat) (c : Byte) :
    textEntry s p .char c n = ⟨.char, c, s.comp.printPoint, escapement s.descriptor c, s.comp.boldOf p, s.comp.underlineOf p,
      some s.freeGroup, stateAtTake s.comp.mode .char (onDescriptor s.descriptor c) n, false⟩ := by
  rw [textEntry, if_pos (.inl rfl)]

theorem textEntry_space (n : Nat) :
    textEntry s p .space 0x20 n = ⟨.space, 0x20, s.comp.printPoint, escapement s.descriptor 0x20, s.comp.boldOf p,
      s.comp.underlineOf p, if s.comp.underlineOf p then some s.freeGroup else none,
      stateAtTake s.comp.mode .space (onDescriptor s.descriptor 0x20) n, false⟩ := by
  simp only [textEntry, reduceCtorEq, false_or]

theorem takeText_line {kind : EntryKind} {c : Byte} (hmode : s.comp.mode = .line) :
    takeText s p it kind c = takePlacing s p it [] (takeEntry p (textEntry s p kind c 0) s) := by
  rw [takeText, hmode]

/-- R180: what a SPACE that is not an implied RETURN echoes. -/
theorem echoOf_typedSpace (hnot : ¬impliesReturn s p = true) : echoOf .space (impliesReturn s p) = some (0x50, some 0x20) := by
  rw [Bool.not_eq_true] at hnot
  rw [hnot]
  rfl

theorem echoOf_char {c : Byte} (hc : c ≠ 0x20) (implied : Bool) : echoOf (.char c) implied = some (0x41, some c) := by
  simp only [echoOf, if_neg hc]

/-! ## The strikes in DIRECT mode -/

/-- R16 to R18: a CHAR's strikes as PRINT entries. -/
theorem printEntries_char (d : Option Descriptor) (c : Byte) (bold under : Bool) (at_ w vpos g : Nat) (pitch : Pitch) :
    printEntries (buildGroup d .char true c bold under at_ w) vpos g pitch p =
      .print ⟨c, .base, at_, vpos, g, pitch, p⟩ :: (if bold then [.print ⟨c, .boldSecond, at_ + 1, vpos, g, pitch, p⟩] else []) ++
        if under ∧ onDescriptor d 0x5F = true then
          (underscorePositions at_ w (escapement d 0x5F)).map fun pos => .print ⟨0x5F, .underscore, pos, vpos, g, pitch, p⟩
        else [] := by
  unfold buildGroup
  generalize onDescriptor d 0x5F = printable
  cases bold <;> cases under <;> cases printable <;> simp [printEntries]

/-- R17, R32: a SPACE's strikes are its underscores. -/
theorem printEntries_space (d : Option Descriptor) (bold under : Bool) (at_ w vpos g : Nat) (pitch : Pitch) :
    printEntries (buildGroup d .space true 0x20 bold under at_ w) vpos g pitch p =
      if under ∧ onDescriptor d 0x5F = true then
        (underscorePositions at_ w (escapement d 0x5F)).map fun pos => .print ⟨0x5F, .underscore, pos, vpos, g, pitch, p⟩
      else [] := by
  unfold buildGroup
  generalize onDescriptor d 0x5F = printable
  cases under <;> cases printable <;> simp [printEntries]

theorem takeText_direct {kind : EntryKind} {c : Byte} {strikes : List SEntry} {e : Entry} {lost : Bool}
    (hmode : s.comp.mode = .direct) (hlost : (textGroup s p kind c).lost = lost)
    (hentry : textEntry s p kind c (textGroup s p kind c).strikes.length = e)
    (hstrikes : printEntries (textGroup s p kind c) s.comp.vpos (e.group.getD 0) (composedPitch s.descriptor) p = strikes) :
    takeText s p it kind c =
      takePlacing s p it strikes (reportLostUnderscore p (e.group.getD 0) e.pos lost (takeEntry p e s)) := by
  rw [takeText, hmode]
  simp only [hentry, hstrikes, hlost]

theorem stateAtTake_placed {kind : EntryKind} {onWheel : Bool} {n : Nat} (h : n ≠ 0) :
    stateAtTake .direct kind onWheel n = .pending := if_neg h

theorem reportLostUnderscore_kept (g pos : Nat) (u : State) : reportLostUnderscore p g pos false u = u := by
  unfold reportLostUnderscore
  split <;> rfl

theorem takeSpace_plain (hmode : s.comp.mode = .direct) (hunder : s.comp.underlineOf p = false) :
    takeText s p it .space 0x20 = takePlacing s p it []
      (addEntry ⟨.space, 0x20, s.comp.printPoint, escapement s.descriptor 0x20, s.comp.boldOf p, s.comp.underlineOf p, none, .struck,
        false⟩ (s.comp.printPoint + escapement s.descriptor 0x20) (openLine p s)) := by
  have group : textGroup s p .space 0x20 = ⟨[], false⟩ := by
    rw [textGroup, hunder]
    rfl
  have entry : textEntry s p .space 0x20 (textGroup s p .space 0x20).strikes.length = ⟨.space, 0x20, s.comp.printPoint,
      escapement s.descriptor 0x20, s.comp.boldOf p, s.comp.underlineOf p, none, .struck, false⟩ := by
    rw [group, textEntry_space, hunder, hmode]
    rfl
  rw [takeText_direct (lost := false) (strikes := []) hmode (by rw [group]) entry (by rw [group]; rfl), reportLostUnderscore_kept]
  rfl

theorem takeSpace_underlined {strikes : List SEntry} {x : PrintState} (hmode : s.comp.mode = .direct)
    (hunder : s.comp.underlineOf p = true)
    (hstrikes : printEntries (textGroup s p .space 0x20) s.comp.vpos s.freeGroup (composedPitch s.descriptor) p = strikes)
    (hstate : stateAtTake .direct .space (onDescriptor s.descriptor 0x20) strikes.length = x) :
    takeText s p it .space 0x20 = takePlacing s p it strikes
      (reportLostUnderscore p s.freeGroup s.comp.printPoint (!(onDescriptor s.descriptor 0x5F))
        (addEntry ⟨.space, 0x20, s.comp.printPoint, escapement s.descriptor 0x20, s.comp.boldOf p, s.comp.underlineOf p,
          some s.freeGroup, x, false⟩ (s.comp.printPoint + escapement s.descriptor 0x20) (openLine p (s.useGroup s.freeGroup)))) := by
  have lost : (textGroup s p .space 0x20).lost = !(onDescriptor s.descriptor 0x5F) := by
    rw [textGroup, hunder]
    rfl
  have entry : textEntry s p .space 0x20 (textGroup s p .space 0x20).strikes.length = ⟨.space, 0x20, s.comp.printPoint,
      escapement s.descriptor 0x20, s.comp.boldOf p, s.comp.underlineOf p, some s.freeGroup, x, false⟩ := by
    rw [← hstate, ← hstrikes, printEntries_length, textEntry_space, hunder, hmode]
    rfl
  exact takeText_direct hmode lost entry hstrikes

end Sys2Proof.Machine

namespace Sys2Proof.Proofs
open Sys2Proof.Machine

/-- Settles O37: in LINE mode the group is kept back, so the take places nothing and only the entry has to be named. -/
theorem textHeldInLineMode : Obligations.TextHeldInLineMode := by
  unfold Obligations.TextHeldInLineMode
  rintro s p ⟨cmd, tag, notify⟩ h hmode hfree hroom bound bold under joined
  have typed : ¬impliesReturn s p = true := by simp [impliesReturn, hmode]
  refine ⟨?_, ?_⟩
  · rintro c rfl hc hcode hin
    have tests : tryChar s p ⟨.char c, tag, notify⟩ c = takeText s p ⟨.char c, tag, notify⟩ .char c :=
      (if_neg hc).trans ((if_neg (by simp [hcode])).trans ((if_neg (not_lineFull hfree)).trans
        ((if_neg (not_pastMargin hin)).trans (if_neg (by simp [hmode])))))
    have taken := tests.trans (takeText_line hmode)
    have state : stateAtTake s.comp.mode .char (onDescriptor s.descriptor c) 0 =
        if onDescriptor s.descriptor c then .held else .unprintable := by
      rw [hmode]
      cases onDescriptor s.descriptor c <;> rfl
    rw [textEntry_char, state] at taken
    exact row_echoed rfl h rfl taken (by simp) (echoOf_char hc _) hroom
  · intro hin e u
    have tests (it : QItem) : trySpace s p it = takeText s p it .space 0x20 :=
      (if_neg typed).trans ((if_neg (not_lineFull hfree)).trans (if_neg (not_pastMargin hin)))
    have taken (it : QItem) : trySpace s p it = takePlacing s p it [] (addEntry e (e.pos + e.width) (openLine p
        (if under then s.useGroup s.freeGroup else s))) := by
      rw [tests, takeText_line hmode, textEntry_space, hmode]
      simp only [takeEntry, useEntryGroup, e]
      cases hunder : s.comp.underlineOf p <;> simp only [under, hunder] <;> rfl
    have quiet : (addEntry e (e.pos + e.width) (openLine p (if under then s.useGroup s.freeGroup else s))).seq = s.seq := by
      simp only [addEntry_seq, openLine_seq]
      split <;> rfl
    refine ⟨?_, ?_⟩
    · rintro rfl
      exact row_echoed rfl h rfl (taken _) quiet (echoOf_typedSpace typed) hroom
    · rintro rfl
      exact row_echoed rfl h rfl (taken _) quiet (echoOf_typedSpace typed) hroom

theorem charPlacedInDirectMode : Sys2Proof.Claims.CharPlacedInDirectMode := by
  rintro s p ⟨cmd, tag, notify⟩ c h rfl hmode hc hcode hwheel hfree at_ w bold under strike strikes hin hroom v u
  let lost := under && !(onDescriptor s.descriptor 0x5F)
  have tests : tryChar s p ⟨.char c, tag, notify⟩ c = takeText s p ⟨.char c, tag, notify⟩ .char c :=
    (if_neg hc).trans ((if_neg (by simp [hcode])).trans ((if_neg (not_lineFull hfree)).trans
      ((if_neg (not_pastMargin hin)).trans (if_neg (by simp [hwheel])))))
  have entry : textEntry s p .char c (textGroup s p .char c).strikes.length =
      ⟨.char, c, at_, w, bold, under, some s.freeGroup, .pending, false⟩ := by
    have some : (textGroup s p .char c).strikes.length ≠ 0 := Nat.succ_ne_zero _
    rw [textEntry_char, hmode, stateAtTake_placed some]
  have taken := tests.trans (takeText_direct hmode (lost := lost) rfl entry
    (printEntries_char s.descriptor c bold under at_ w s.comp.vpos s.freeGroup (composedPitch s.descriptor)))
  have told : reportLostUnderscore p s.freeGroup at_ lost v = u := by
    unfold reportLostUnderscore u
    cases v.comp.line with
    | none => rfl
    | some l => exact if_congr (by simp [lost, and_assoc]) rfl rfl
  have joined : takeEntry p ⟨.char, c, at_, w, bold, under, some s.freeGroup, .pending, false⟩ s = v := rfl
  have seq : u.seq = s.seq := by rw [← told, reportLostUnderscore_seq, ← joined, takeEntry_seq]
  exact row_echoed rfl h rfl (taken.trans (by rw [joined, Option.getD_some, told])) seq (echoOf_char hc _) hroom

theorem spaceAndTabTaken : Sys2Proof.Claims.SpaceAndTabTaken := by
  rintro s p ⟨cmd, tag, notify⟩ h hfree at_ bound w bold under joined
  refine ⟨?_, ?_⟩
  · rintro rfl hmode hplain hin
    have typed : ¬impliesReturn s p = true := mt impliesReturn_iff.1 fun himplied => hplain himplied.2
    have tests : trySpace s p ⟨.space, tag, notify⟩ = takeText s p ⟨.space, tag, notify⟩ .space 0x20 :=
      (if_neg typed).trans ((if_neg (not_lineFull hfree)).trans (if_neg (not_pastMargin hin)))
    have group := printEntries_space (p := p) s.descriptor bold under at_ w s.comp.vpos s.freeGroup (composedPitch s.descriptor)
    have joined_seq (g : Option Nat) (x : PrintState) (u : State) (hu : u.seq = s.seq) : (joined g x u).seq = s.seq := by
      simpa [joined] using hu
    refine ⟨fun hunder hroom => ?_, fun hunder hon => ?_, fun hunder hoff hroom => ?_⟩
    · have taken := tests.trans (takeSpace_plain hmode hunder)
      exact row_echoed rfl h rfl taken (joined_seq _ _ _ rfl) (echoOf_typedSpace typed) hroom
    · intro strikes hroom
      rw [if_pos ⟨hunder, hon⟩] at group
      have some : strikes.length ≠ 0 := by
        rw [List.length_map, Ne, List.length_eq_zero_iff]
        exact underscorePositions_ne_nil at_ (escapement_pos s.descriptor 0x20) (escapement_pos s.descriptor 0x5F)
      have taken := tests.trans (takeSpace_underlined hmode hunder group (stateAtTake_placed some))
      rw [hon, Bool.not_true, reportLostUnderscore_kept] at taken
      exact row_echoed rfl h rfl taken (joined_seq _ _ _ rfl) (echoOf_typedSpace typed) hroom
    · intro v u
      rw [if_neg fun h => Bool.eq_false_iff.1 hoff h.2] at group
      have taken := tests.trans (takeSpace_underlined hmode hunder group rfl)
      rw [hoff, Bool.not_false] at taken
      have told : reportLostUnderscore p s.freeGroup at_ true v = u := by
        unfold reportLostUnderscore u
        cases v.comp.line with
        | none => rfl
        | some l => exact if_congr (by simp) rfl rfl
      have seq : u.seq = s.seq := by
        rw [← told, reportLostUnderscore_seq]
        exact joined_seq _ _ _ rfl
      exact row_echoed rfl h rfl (taken.trans (congrArg _ told)) seq (echoOf_typedSpace typed) hroom
  · rintro stop hmem rfl hright hbound hleast strikes state hroom
    have taken : tryTab s p ⟨.tab, tag, notify⟩ = takePlacing s p ⟨.tab, tag, notify⟩
        (if s.comp.mode = .direct then [.move stop] else []) (addEntry (tabEntry s stop) stop (openLine p s)) := by
      refine (if_neg (not_lineFull hfree)).trans ?_
      rw [nextStop_eq_some hmem hright hbound hleast]
    have placed : (if s.comp.mode = .direct then [.move stop] else []) = strikes := by
      unfold strikes
      cases s.comp.mode <;> rfl
    have entry : tabEntry s stop = ⟨.tab, 0x09, at_, stop - at_, false, false, none, state, false⟩ := by
      unfold tabEntry state
      cases s.comp.mode <;> rfl
    rw [placed, entry] at taken
    exact row_echoed rfl h rfl taken (by simp) rfl hroom

/-- Settles O38, by what the entry's group is built of. -/
theorem textPlaced : Obligations.TextPlaced := ⟨charPlacedInDirectMode, spaceAndTabTaken⟩

end Sys2Proof.Proofs
end

-- ==== Sys2Proof/Proofs/FreeNumbers ====
section
/-! SUPPORT. The cyclic search for a free number, by which check ids (R139) and group numbers (R25) are assigned. -/

namespace Sys2Proof.Machine

/-- The first number from a start, within a number of steps, that is not used; the numbers follow one another by next. -/
def firstFree (used : Nat → Bool) (next : Nat → Nat) : Nat → Nat → Nat
  | 0, g => g
  | n + 1, g => if used g then firstFree used next n (next g) else g

theorem findCheckId_eq (cs : List Check) : ∀ n id, findCheckId cs n id = firstFree (fun id => cs.any fun c => c.id == id) nextCheckId n id
  | 0, _ => rfl
  | n + 1, id => by rw [findCheckId, firstFree, findCheckId_eq cs n]

theorem findGroup_eq (s : State) : ∀ n g, findGroup s n g = firstFree (groupInUse s) nextGroup n g
  | 0, _ => rfl
  | n + 1, g => by rw [findGroup, firstFree, findGroup_eq s n]

/-- Numbers go from 1 to a last one and round again: the search reaches every one of them, so it finds a free one. -/
theorem firstFree_spec {used : Nat → Bool} {next : Nat → Nat} {last t : Nat} (hnext : ∀ g, next g = if g ≥ last then 1 else g + 1)
    (ht : 1 ≤ t ∧ t ≤ last) (hfree : used t = false) : ∀ n g, 1 ≤ g → g ≤ last → (if g ≤ t then t - g else t + last - g) ≤ n →
      used (firstFree used next n g) = false ∧ 1 ≤ firstFree used next n g ∧ firstFree used next n g ≤ last := by
  intro n
  induction n with
  | zero =>
    intro g hg1 hg2 hdist
    have here : g = t := by split at hdist <;> omega
    exact ⟨here ▸ hfree, hg1, hg2⟩
  | succ n ih =>
    intro g hg1 hg2 hdist
    rw [firstFree]
    split
    · rename_i hused
      have elsewhere : g ≠ t := fun same => by simp [same, hfree] at hused
      refine ih _ ?_ ?_ ?_ <;> rw [hnext]
      · split <;> omega
      · split <;> omega
      · split at hdist <;> split <;> split <;> omega
    · exact ⟨Bool.not_eq_true _ ▸ ‹_›, hg1, hg2⟩

/-- R139: with a place in the check queue, the id of a new check is one of 1 to 255 that no check holds. -/
theorem findCheckId_spec {cs : List Check} {id : Nat} (hplace : cs.length < 8) (hlow : 1 ≤ id) (hhigh : id ≤ 255) :
    (∀ c ∈ cs, c.id ≠ findCheckId cs 255 id) ∧ 1 ≤ findCheckId cs 255 id ∧ findCheckId cs 255 id ≤ 255 := by
  obtain ⟨t, ht, hfree⟩ : ∃ t ∈ Finset.Icc 1 8, t ∉ (cs.map Check.id).toFinset := by
    refine Finset.exists_mem_notMem_of_card_lt_card ?_
    calc (cs.map Check.id).toFinset.card ≤ (cs.map Check.id).length := List.toFinset_card_le _
      _ < (Finset.Icc 1 8).card := by simpa using hplace
  rw [Finset.mem_Icc] at ht
  have free : (cs.any fun c => c.id == t) = false := by simpa using hfree
  obtain ⟨unused, range⟩ := firstFree_spec (used := fun id => cs.any fun c => c.id == id) (next := nextCheckId) (last := 255)
    (fun _ => rfl) ⟨ht.1, by omega⟩ free 255 id hlow hhigh (by split <;> omega)
  rw [← findCheckId_eq] at unused range
  exact ⟨by simpa using unused, range⟩

/-- R25: with a group number free, the one assigned is free. -/
theorem freeGroup_spec {s : State} (hlow : 1 ≤ s.comp.groupCounter) (hhigh : s.comp.groupCounter ≤ 65535)
    (hfree : ∃ g, 1 ≤ g ∧ g ≤ 65535 ∧ groupInUse s g = false) :
    groupInUse s s.freeGroup = false ∧ 1 ≤ s.freeGroup ∧ s.freeGroup ≤ 65535 := by
  obtain ⟨t, ht1, ht2, hunused⟩ := hfree
  rw [State.freeGroup, findGroup_eq]
  exact firstFree_spec (fun _ => rfl) ⟨ht1, ht2⟩ hunused 65535 _ hlow hhigh (by split <;> omega)

end Sys2Proof.Machine

namespace Sys2Proof.Proofs
open Sys2Proof.Machine

theorem groupNumberIsFree : Sys2Proof.Claims.GroupNumberIsFree := by
  intro s hlow hhigh hfree
  obtain ⟨unused, h1, h2⟩ := freeGroup_spec hlow hhigh hfree
  have counter : nextGroup s.freeGroup = if s.freeGroup = 65535 then 1 else s.freeGroup + 1 :=
    if_congr (by omega) rfl rfl
  exact ⟨h1, h2, unused, by rw [State.useGroup, counter]⟩

end Sys2Proof.Proofs
end

-- ==== Sys2Proof/Proofs/ImmediateRows ====
section
/-! SUPPORT. The rows of the immediate commands that set words, links and the display, from either port. -/

namespace Sys2Proof.Machine

/-! ### The interface's rows (R168, R169, R171) -/

section
variable {row : Instr} {s u : State} {a : Arrival} {code : Byte} {params : List Byte}

/-- R168: an immediate command of the interface, complete, outside a break and with a place in its queue. -/
theorem leaves_interfaceRow (hrow : exec row s = done s (commandArrives code a params s)) (hport : a.port = .interface)
    (hbreak : s.ifl.inBreak = false) (hroom : s.ifl.inbound.length < 48) (hmatch : paramsMatch code params = true)
    (hdone : sequenceArrives code a.tag false params s = u) : ∃ t, exec row s = .next t ∧ Leaves s t u := by
  have arrives : commandArrives code a params s = u := by
    rw [commandArrives, hport]
    simp only [interfaceCommand, hbreak, Config.interfacePlaces, if_neg (not_le.2 hroom), hmatch, if_true, hdone]
    rfl
  rw [hrow, arrives]
  exact leaves_done s u

theorem leaves_notAllowed (hrow : exec row s = done s (commandArrives code a params s)) (hport : a.port = .interface)
    (hbreak : s.ifl.inBreak = false) (hroom : s.ifl.inbound.length < 48) (hmatch : paramsMatch code params = true)
    (hcls : codeClass code = some .consoleOnly) :
    ∃ t, exec row s = .next t ∧ Leaves s t (report s .interface a.tag (.refused .notAllowed code .plain)) :=
  leaves_interfaceRow hrow hport hbreak hroom hmatch (sequenceArrives_consoleOnly hcls)

theorem sequenceArrives_taken {tag : Byte} (hcls : codeClass code = some .either)
    (h : immediate code .interface tag params s = (.accepted [], u)) : sequenceArrives code tag false params s = u := by
  simp only [sequenceArrives, hcls, h]

theorem sequenceArrives_refused {tag : Byte} {r : Reason} (hcls : codeClass code = some .either)
    (h : immediate code .interface tag params s = (.refused r, s)) :
    sequenceArrives code tag false params s = report s .interface tag (.refused r code .plain) := by
  simp only [sequenceArrives, hcls, h]

/-- R193: in a break nothing is decoded. -/
theorem commandArrives_inBreak (hport : a.port = .interface) (hbreak : s.ifl.inBreak = true) :
    commandArrives code a params s = s := by
  rw [commandArrives, hport]
  exact if_pos hbreak

/-- R171: with the inbound queue full the sequence's last byte is an overrun. -/
theorem commandArrives_overrun (hport : a.port = .interface) (hbreak : s.ifl.inBreak = false)
    (hfull : 48 ≤ s.ifl.inbound.length) : commandArrives code a params s = linkError .overrun s := by
  rw [commandArrives, hport]
  exact (if_neg (by simp [hbreak])).trans (if_pos hfull)

end

/-! ### Parameters of variable count -/

theorem paramsMatch_wordCheck {n : Byte} {letters : List Byte} (h : n.toNat = letters.length) :
    paramsMatch 0x71 (n :: letters) = true := by
  simp [paramsMatch, paramsNeeded, h, Nat.add_comm]

theorem paramsMatch_wordList {code x n : Byte} {letters : List Byte} (hcode : code = 0x75 ∨ code = 0x76)
    (h : n.toNat = letters.length) : paramsMatch code (x :: n :: letters) = true := by
  have needed : (x :: n :: letters).length = 2 + n.toNat := by simp [h, Nat.add_comm 2]
  rcases hcode with rfl | rfl
  · exact beq_iff_eq.2 needed
  · exact beq_iff_eq.2 needed

theorem paramsMatch_wheelMap {x y k : Byte} {rest : List Byte} (h : rest.length = 2 * k.toNat) :
    paramsMatch 0x6D (x :: y :: k :: rest) = true := by
  have needed : (x :: y :: k :: rest).length = 3 + 2 * k.toNat := by simp [h, Nat.add_comm 3]
  exact beq_iff_eq.2 needed

/-! ### Words added and removed (R149, R150) -/

section
variable {l : WordList} {letters : List Byte} {s : State}

theorem addWordOp_badWord (h : isListWord letters = false) : addWordOp l letters s = (.refused .badWord, s) := by
  simp [addWordOp, h]

theorem addWordOp_held (h : isListWord letters = true) (hheld : letters.map foldCase ∈ s.spell.list l) :
    addWordOp l letters s = (.already, s) := by simp [addWordOp, h, hheld]

theorem addWordOp_full (h : isListWord letters = true) (hnew : letters.map foldCase ∉ s.spell.list l)
    (hfull : l.places ≤ (s.spell.list l).length) : addWordOp l letters s = (.refused .listFull, s) := by
  simp [addWordOp, h, hnew, hfull]

theorem addWordOp_adds (h : isListWord letters = true) (hnew : letters.map foldCase ∉ s.spell.list l)
    (hroom : (s.spell.list l).length < l.places) :
    addWordOp l letters s = (.accepted [], { s with spell := s.spell.addWord l (letters.map foldCase) }) := by
  simp [addWordOp, h, hnew, not_le.2 hroom]

theorem removeWordOp_badWord (h : isListWord letters = false) : removeWordOp l letters s = (.refused .badWord, s) := by
  simp [removeWordOp, h]

theorem removeWordOp_absent (h : isListWord letters = true) (hnew : letters.map foldCase ∉ s.spell.list l) :
    removeWordOp l letters s = (.already, s) := by simp [removeWordOp, h, hnew]

theorem removeWordOp_removes (h : isListWord letters = true) (hheld : letters.map foldCase ∈ s.spell.list l) :
    removeWordOp l letters s = (.accepted [], { s with spell := s.spell.removeWord l (letters.map foldCase) }) := by
  simp [removeWordOp, h, hheld]

end

/-! ### Words learned (R148) -/

theorem learnWords_none {ws : List WordRec} (h : ∀ w ∈ ws, w.state ≠ .unknown) (s : State) : learnWords ws s = (0, 0, s) := by
  induction ws with
  | nil => rfl
  | cons w rest ih =>
    rw [learnWords, if_neg (h w List.mem_cons_self)]
    exact ih fun x hx => h x (List.mem_cons_of_mem _ hx)

theorem learnWords_skip {before after : List WordRec} (h : ∀ w ∈ before, w.state ≠ .unknown) (s : State) :
    learnWords (before ++ after) s = learnWords after s := by
  induction before with
  | nil => rfl
  | cons w rest ih =>
    rw [List.cons_append, learnWords, if_neg (h w List.mem_cons_self)]
    exact ih fun x hx => h x (List.mem_cons_of_mem _ hx)

section
variable {before after : List WordRec} {w : WordRec} {s : State}

theorem learnWords_one (hw : w.state = .unknown) (hothers : ∀ x ∈ before ++ after, x.state ≠ .unknown)
    (hnew : w.letters ∉ s.spell.userWords) (hroom : s.spell.userWords.length < 64) :
    learnWords (before ++ w :: after) s =
      (1, 0, report { s with spell := s.spell.addWord .user w.letters } .console 0 (.userWordAdded w.letters)) := by
  rw [learnWords_skip fun x hx => hothers x (List.mem_append_left _ hx), learnWords, if_pos hw, if_neg (by simpa using hnew),
    if_neg (show ¬Config.userWords ≤ s.spell.userWords.length from not_le.2 hroom)]
  dsimp only
  rw [learnWords_none fun x hx => hothers x (List.mem_append_right _ hx)]

theorem learnWords_full (hw : w.state = .unknown) (hothers : ∀ x ∈ before ++ after, x.state ≠ .unknown)
    (hnew : w.letters ∉ s.spell.userWords) (hfull : 64 ≤ s.spell.userWords.length) :
    learnWords (before ++ w :: after) s = (0, 1, s) := by
  rw [learnWords_skip fun x hx => hothers x (List.mem_append_left _ hx), learnWords, if_pos hw, if_neg (by simpa using hnew),
    if_pos (show Config.userWords ≤ s.spell.userWords.length from hfull), learnWords_none fun x hx => hothers x (List.mem_append_right _ hx)]

end

end Sys2Proof.Machine

namespace Sys2Proof.Proofs
open Sys2Proof.Machine

theorem wordsAccepted : Sys2Proof.Claims.WordsAccepted := by
  intro s a hport hparams alerted accepted marked n
  have learned {u : State} {x y : Nat} (h : learnWords s.spell.words (openTxn s) = (x, y, openTxn u))
      (hwords : u.spell.words = s.spell.words) (hcomp : u.comp = s.comp) :
      ∃ t, exec (.acceptAndLearn a) s = .next t ∧ Leaves s t ((marked u).answered [0, 3, n, byte x, byte y] false) := by
    refine leaves_consoleRow (code := 0x61) (ans := .accepted [n, byte x, byte y]) rfl hport rfl nofun (by rw [hparams]; rfl) ?_
    have words : (openTxn s).spell.words = s.spell.words := rfl
    rw [hparams]
    change learnOp (openTxn s) = _
    rw [learnOp, words, h]
    have same : acceptWords (openTxn u) = openTxn (marked u) := by
      unfold marked accepted
      rw [← hwords, State.entries, ← hcomp]
      rfl
    exact Prod.ext rfl same
  refine ⟨?_, fun hnone => ?_, fun before w after hsplit hw hothers hnew => ⟨fun hroom => ?_, fun hfull => ?_⟩⟩
  · exact leaves_consoleRow (code := 0x61) (ans := .accepted [n]) rfl hport rfl nofun (by rw [hparams]; rfl) (by rw [hparams]; rfl)
  · exact learned (u := s) (learnWords_none hnone _) rfl rfl
  · exact learned (by rw [hsplit]; exact learnWords_one hw hothers hnew hroom) rfl rfl
  · exact learned (u := s) (by rw [hsplit]; exact learnWords_full hw hothers hnew hfull) rfl rfl

theorem wordAdded : Sys2Proof.Claims.WordAdded := by
  intro s a n letters hport hparams hlength w answer
  have user {ans : Answer} {u : State} (h : addWordOp .user letters (openTxn s) = (ans, openTxn u)) (htakes : ans.takes = false) :
      answer (.userWordAdd a) u ans.bytes := by
    have row := leaves_consoleRow (row := .userWordAdd a) (params := 0 :: a.params) rfl hport rfl nofun
      (by rw [hparams]; exact paramsMatch_wordList (.inl rfl) hlength) (by rw [hparams]; exact h)
    rwa [htakes] at row
  have reject {ans : Answer} {u : State} (h : addWordOp .reject letters (openTxn s) = (ans, openTxn u)) (htakes : ans.takes = false) :
      answer (.rejectWordAdd a) u ans.bytes := by
    have row := leaves_consoleRow (row := .rejectWordAdd a) (params := 0 :: a.params) rfl hport rfl nofun
      (by rw [hparams]; exact paramsMatch_wordList (.inr rfl) hlength) (by rw [hparams]; exact h)
    rwa [htakes] at row
  refine ⟨fun hbad => ⟨user (addWordOp_badWord hbad) rfl, reject (addWordOp_badWord hbad) rfl⟩, fun hgood =>
    ⟨fun h => user (addWordOp_held hgood h) rfl, fun h hfull => user (addWordOp_full hgood h hfull) rfl,
      fun h hroom => user (ans := .accepted []) (addWordOp_adds (l := .user) (s := openTxn s) hgood h hroom) rfl, fun h => reject (addWordOp_held hgood h) rfl,
      fun h hfull => reject (addWordOp_full hgood h hfull) rfl, fun h hroom => reject (ans := .accepted []) (addWordOp_adds (l := .reject) (s := openTxn s) hgood h hroom) rfl⟩⟩

/-- Settles O54, by the UNKNOWN words of the table and the tests of an addition in their order. -/
theorem wordsAcceptedAndAdded : Obligations.WordsAcceptedAndAdded := ⟨wordsAccepted, wordAdded⟩

/-- Settles O55, by the tests of a removal in their order. -/
theorem wordRemoved : Obligations.WordRemoved := by
  unfold Obligations.WordRemoved
  intro s a n letters w answer turnedAway
  refine ⟨fun hport hparams hlength => ?_, fun hport hparams => ?_, fun hport hbreak hroom => ⟨fun hparams hlength => ?_, fun hparams => ?_⟩⟩
  · have user {ans : Answer} {u : State} (h : removeWordOp .user letters (openTxn s) = (ans, openTxn u))
        (htakes : ans.takes = false) : answer (.userWordRemove a) u ans.bytes := by
      have row := leaves_consoleRow (row := .userWordRemove a) (params := 1 :: a.params) rfl hport rfl nofun
        (by rw [hparams]; exact paramsMatch_wordList (.inl rfl) hlength) (by rw [hparams]; exact h)
      rwa [htakes] at row
    have reject {ans : Answer} {u : State} (h : removeWordOp .reject letters (openTxn s) = (ans, openTxn u))
        (htakes : ans.takes = false) : answer (.rejectWordRemove a) u ans.bytes := by
      have row := leaves_consoleRow (row := .rejectWordRemove a) (params := 1 :: a.params) rfl hport rfl nofun
        (by rw [hparams]; exact paramsMatch_wordList (.inr rfl) hlength) (by rw [hparams]; exact h)
      rwa [htakes] at row
    exact ⟨fun hbad => ⟨user (removeWordOp_badWord hbad) rfl, reject (removeWordOp_badWord hbad) rfl⟩, fun hgood =>
      ⟨fun h => user (removeWordOp_absent hgood h) rfl, fun h => user (ans := .accepted []) (removeWordOp_removes (l := .user) (s := openTxn s) hgood h) rfl,
        fun h => reject (removeWordOp_absent hgood h) rfl, fun h => reject (ans := .accepted []) (removeWordOp_removes (l := .reject) (s := openTxn s) hgood h) rfl⟩⟩
  · have cleared {ans : Answer} {u : State} (h : listClearCommand [n] (openTxn s) = (ans, openTxn u)) :
        ∃ t, exec (.listClear a) s = .next t ∧ Leaves s t (u.answered ans.bytes ans.takes) :=
      leaves_consoleRow (code := 0x6C) rfl hport rfl nofun (by rw [hparams]; rfl) (by rw [hparams]; exact h)
    refine ⟨?_, ?_, fun h0 h1 => cleared (ans := .refused .badParameter) ?_⟩
    · rintro rfl
      exact cleared (ans := .accepted []) rfl
    · rintro rfl
      exact cleared (ans := .accepted []) rfl
    · unfold listClearCommand
      split
      · exact absurd (List.singleton_inj.1 ‹_›) h0
      · exact absurd (List.singleton_inj.1 ‹_›) h1
      · rfl
  · exact ⟨leaves_notAllowed (code := 0x75) rfl hport hbreak hroom (by rw [hparams]; exact paramsMatch_wordList (.inl rfl) hlength) rfl,
      leaves_notAllowed (code := 0x76) rfl hport hbreak hroom (by rw [hparams]; exact paramsMatch_wordList (.inr rfl) hlength) rfl⟩
  · exact leaves_notAllowed (code := 0x6C) rfl hport hbreak hroom (by rw [hparams]; rfl) rfl

end Sys2Proof.Proofs
end

-- ==== Sys2Proof/Proofs/LinkRows ====
section
/-! SUPPORT. WORD CHECK, the settings of the links and the display, and the commands the interface may not give. -/

namespace Sys2Proof.Machine

/-! ### WORD CHECK (R151) -/

section
variable {p : Port} {tag : Byte} {letters : List Byte} {s : State}

theorem wordCheckOp_badWord (h : isListWord letters = false) : wordCheckOp p tag letters s = (.refused .badWord, s) := by
  simp [wordCheckOp, h]

theorem wordCheckOp_busy (h : isListWord letters = true) (hfull : 8 ≤ s.spell.checks.length) :
    wordCheckOp p tag letters s = (.refused .busy, s) := by simp [wordCheckOp, h, Config.checkPlaces, hfull]

theorem wordCheckOp_placed (h : isListWord letters = true) (hplace : s.spell.checks.length < 8) :
    wordCheckOp p tag letters s =
      (.accepted [], { s with spell := (s.spell.placeCheck (.wordCheck p tag) (letters.map foldCase)).2 }) := by
  simp [wordCheckOp, h, Config.checkPlaces, not_le.2 hplace]

theorem nextCheckId_of_le {id : Nat} (h : id ≤ 255) : nextCheckId id = if id = 255 then 1 else id + 1 :=
  if_congr (by omega) rfl rfl

end

/-! ### Settings of the links and the display -/

theorem rebuildAt_openTxn (w : Nat) (s : State) : rebuildAt w (openTxn s) = openTxn (rebuildAt w s) := by
  by_cases same : buildImage w s = s.disp.image
  · rw [rebuildAt_same w s same, rebuildAt_same w (openTxn s) same]
  · rw [rebuildAt_new w s same, rebuildAt_new w (openTxn s) same]
    rfl

theorem rateOfCode_isSome {n : Nat} (h : n ≤ 5) : ∃ rate, rateOfCode n = some rate := by interval_cases n <;> exact ⟨_, rfl⟩

theorem formatOfCode_isSome {n : Nat} (h : n ≤ 4) : ∃ format, formatOfCode n = some format := by
  interval_cases n <;> exact ⟨_, rfl⟩

theorem rateOfCode_eq_none {n : Nat} (h : 5 < n) : rateOfCode n = none := by
  obtain ⟨k, rfl⟩ := Nat.exists_eq_add_of_le' (show 6 ≤ n from h)
  rfl

theorem formatOfCode_eq_none {n : Nat} (h : 4 < n) : formatOfCode n = none := by
  obtain ⟨k, rfl⟩ := Nat.exists_eq_add_of_le' (show 5 ≤ n from h)
  rfl

theorem linkFormatCommand_set {x y : Byte} {rate : Rate} {format : LineFormat} (hrate : rateOfCode x.toNat = some rate)
    (hformat : formatOfCode y.toNat = some format) (s : State) :
    linkFormatCommand [x, y] s = (.accepted [], { s with ifl := { s.ifl with
      rate := rate, format := format, earlierFormats := s.ifl.format :: s.ifl.earlierFormats } }) := by
  simp only [linkFormatCommand, hrate, hformat]

theorem linkFormatCommand_bad {x y : Byte} (h : rateOfCode x.toNat = none ∨ formatOfCode y.toNat = none) (s : State) :
    linkFormatCommand [x, y] s = (.refused .badParameter, s) := by
  rcases h with h | h
  · simp only [linkFormatCommand, h]
  · cases hrate : rateOfCode x.toNat <;> simp only [linkFormatCommand, h, hrate]

theorem echoCommand_set {x : Byte} (h : x.toNat ≤ 1) (s : State) :
    echoCommand [x] s = (.accepted [], { s with ifl := { s.ifl with echo := decide (x = 1) } }) := by
  have two : x = 0 ∨ x = 1 := by
    rcases Nat.le_one_iff_eq_zero_or_eq_one.1 h with h | h
    · exact .inl (BitVec.eq_of_toNat_eq h)
    · exact .inr (BitVec.eq_of_toNat_eq h)
  rcases two with rfl | rfl <;> rfl

theorem echoCommand_bad {x : Byte} (h : 1 < x.toNat) (s : State) : echoCommand [x] s = (.refused .badParameter, s) := by
  unfold echoCommand
  split
  · obtain rfl := List.singleton_inj.1 ‹_›
    exact absurd h (by decide)
  · obtain rfl := List.singleton_inj.1 ‹_›
    exact absurd h (by decide)
  · rfl

/-! ### Every immediate command's row -/

/-- The rows of the immediate commands but ENGINE's own are arrivals of a code with its parameters. -/
theorem exec_immediate (a : Arrival) (s : State) :
    ∀ row ∈ [Instr.wordCheck a, .echo a, .linkFormat a, .peek a, .takeReport a, .status a, .resume a, .clearFault a,
      .continueCmd a, .cancelPending a, .accept a, .acceptAndLearn a, .userWordAdd a, .userWordRemove a, .rejectWordAdd a,
      .rejectWordRemove a, .listClear a, .wheelDefine a, .wheelMap a, .displayWidth a, .remoteHold a, .release a, .holdTime a,
      .attnLevel a, .resetEngine a], ∃ code params, exec row s = done s (commandArrives code a params s) := by
  intro row hrow
  simp only [List.mem_cons, List.not_mem_nil, or_false] at hrow
  rcases hrow with rfl | rfl | rfl | rfl | rfl | rfl | rfl | rfl | rfl | rfl | rfl | rfl | rfl | rfl | rfl | rfl | rfl | rfl | rfl |
      rfl | rfl | rfl | rfl | rfl | rfl
  all_goals exact ⟨_, _, rfl⟩

end Sys2Proof.Machine

namespace Sys2Proof.Proofs
open Sys2Proof.Machine

/-- Settles O56, by the tests of WORD CHECK in their order. -/
theorem wordCheckTaken : Obligations.WordCheckTaken := by
  unfold Obligations.WordCheckTaken
  rintro s ⟨port, tag, params⟩ n letters hparams hlength w ends hlink
  obtain rfl : params = n :: letters := hparams
  have whole : paramsMatch 0x71 (n :: letters) = true := paramsMatch_wordCheck hlength
  cases port with
  | console =>
    have row {ans : Answer} {u : State} (h : wordCheckOp .console tag letters (openTxn s) = (ans, openTxn u)) :
        ∃ t, exec (.wordCheck ⟨.console, tag, n :: letters⟩) s = .next t ∧ Leaves s t (u.answered ans.bytes ans.takes) :=
      leaves_consoleRow (code := 0x71) rfl rfl rfl nofun whole h
    refine ⟨fun hbad => row (wordCheckOp_badWord hbad), fun hgood hfull => row (wordCheckOp_busy (s := openTxn s) hgood hfull),
      fun hgood hplace hlow hhigh => ?_⟩
    obtain ⟨unused, h1, h2⟩ := findCheckId_spec hplace hlow hhigh
    obtain ⟨t, ht, leaves⟩ := row (ans := .accepted []) (u := { s with spell :=
      (s.spell.placeCheck (.wordCheck .console tag) (letters.map foldCase)).2 }) (wordCheckOp_placed hgood hplace)
    refine ⟨t, _, ht, h1, h2, unused, ?_⟩
    rw [← nextCheckId_of_le h2]
    exact leaves
  | interface =>
    obtain ⟨hbreak, hroom⟩ := hlink rfl
    have row {u : State} (h : sequenceArrives 0x71 tag false (n :: letters) s = u) :
        ∃ t, exec (.wordCheck ⟨.interface, tag, n :: letters⟩) s = .next t ∧ Leaves s t u :=
      leaves_interfaceRow (code := 0x71) rfl rfl hbreak hroom whole h
    refine ⟨fun hbad => row (sequenceArrives_refused rfl (wordCheckOp_badWord hbad)),
      fun hgood hfull => row (sequenceArrives_refused rfl (wordCheckOp_busy hgood hfull)), fun hgood hplace hlow hhigh => ?_⟩
    obtain ⟨unused, h1, h2⟩ := findCheckId_spec hplace hlow hhigh
    obtain ⟨t, ht, leaves⟩ := row (sequenceArrives_taken rfl (wordCheckOp_placed hgood hplace))
    refine ⟨t, _, ht, h1, h2, unused, ?_⟩
    rw [← nextCheckId_of_le h2]
    exact leaves

theorem linkSettingsTaken : Sys2Proof.Claims.LinkSettingsTaken := by
  rintro s ⟨port, tag, params⟩ x y hport accepted bad
  obtain rfl : port = .console := hport
  refine ⟨fun hparams => ?_, fun hparams => ?_, fun hparams => ?_⟩
  · obtain rfl : params = [x] := hparams
    have echo {ans : Answer} {u : State} (h : echoCommand [x] (openTxn s) = (ans, openTxn u)) :
        ∃ t, exec (.echo ⟨.console, tag, [x]⟩) s = .next t ∧ Leaves s t (u.answered ans.bytes ans.takes) :=
      leaves_consoleRow (code := 0x65) rfl rfl rfl nofun rfl h
    have hold {ans : Answer} {u : State} (h : holdTimeCommand [x] (openTxn s) = (ans, openTxn u)) :
        ∃ t, exec (.holdTime ⟨.console, tag, [x]⟩) s = .next t ∧ Leaves s t (u.answered ans.bytes ans.takes) :=
      leaves_consoleRow (code := 0x68) rfl rfl rfl nofun rfl h
    have level {ans : Answer} {u : State} (h : attnLevelCommand [x] (openTxn s) = (ans, openTxn u)) :
        ∃ t, exec (.attnLevel ⟨.console, tag, [x]⟩) s = .next t ∧ Leaves s t (u.answered ans.bytes ans.takes) :=
      leaves_consoleRow (code := 0x6F) rfl rfl rfl nofun rfl h
    have width {ans : Answer} {u : State} (h : displayWidthCommand [x] (openTxn s) = (ans, openTxn u)) :
        ∃ t, exec (.displayWidth ⟨.console, tag, [x]⟩) s = .next t ∧ Leaves s t (u.answered ans.bytes ans.takes) :=
      leaves_consoleRow (code := 0x77) rfl rfl rfl nofun rfl h
    have isWidth_iff : isWidth x.toNat = true ↔ x.toNat ∈ [16, 20, 24, 32, 40] := List.contains_iff_mem
    have widened {u : State} (hin : x.toNat ∈ [16, 20, 24, 32, 40])
        (hu : (if x.toNat = s.disp.image.width then openTxn s else { openTxn s with dlink := s.dlink.endContinuous }) = openTxn u) :
        displayWidthCommand [x] (openTxn s) = (.accepted [], openTxn (rebuildAt x.toNat u)) := by
      rw [← rebuildAt_openTxn, ← hu]
      exact if_pos (isWidth_iff.2 hin)
    refine ⟨fun h => echo (ans := .accepted []) (echoCommand_set h _),
      fun h => echo (ans := .refused .badParameter) (echoCommand_bad h _),
      fun hlow hhigh => hold (ans := .accepted []) (if_pos ⟨hlow, hhigh⟩), fun h => hold (ans := .refused .badParameter) (if_neg (by omega)),
      fun hlow hhigh => level (ans := .accepted []) (if_pos ⟨hlow, hhigh⟩), fun h => level (ans := .refused .badParameter) (if_neg (by omega)),
      fun hsame hin => width (ans := .accepted []) (widened hin (if_pos hsame)), fun hnew hin => width (ans := .accepted []) (widened hin (if_neg hnew)),
      fun hout => width (ans := .refused .badParameter) (if_neg (mt isWidth_iff.1 hout))⟩
  · obtain rfl : params = [x, y] := hparams
    have format {ans : Answer} {u : State} (h : linkFormatCommand [x, y] (openTxn s) = (ans, openTxn u)) :
        ∃ t, exec (.linkFormat ⟨.console, tag, [x, y]⟩) s = .next t ∧ Leaves s t (u.answered ans.bytes ans.takes) :=
      leaves_consoleRow (code := 0x66) rfl rfl rfl nofun rfl h
    refine ⟨fun hx hy => ?_, fun hout => format (ans := .refused .badParameter) (linkFormatCommand_bad ?_ _)⟩
    · obtain ⟨rate, hrate⟩ := rateOfCode_isSome hx
      obtain ⟨fmt, hfmt⟩ := formatOfCode_isSome hy
      exact ⟨rate, fmt, hrate, hfmt, format (ans := .accepted []) (linkFormatCommand_set hrate hfmt _)⟩
    · exact hout.imp rateOfCode_eq_none formatOfCode_eq_none
  · obtain rfl : params = [] := hparams
    refine ⟨leaves_consoleRow (code := 0x79) (params := [1]) (ans := .accepted []) rfl rfl rfl nofun rfl rfl,
      leaves_consoleRow (code := 0x79) (params := [0]) (ans := .accepted []) rfl rfl rfl nofun rfl ?_⟩
    change (Answer.accepted [], decideGrant { openTxn s with arb := { s.arb with remoteHold := false } }) = _
    rw [decideGrant_eq]
    rfl

theorem interfaceSettingsTaken : Sys2Proof.Claims.InterfaceSettingsTaken := by
  rintro s ⟨port, tag, params⟩ x y hport hbreak hroom bad
  obtain rfl : port = .interface := hport
  refine ⟨fun hparams => ?_, fun hparams => ?_⟩
  · obtain rfl : params = [x] := hparams
    have echo {u : State} (h : sequenceArrives 0x65 tag false [x] s = u) :
        ∃ t, exec (.echo ⟨.interface, tag, [x]⟩) s = .next t ∧ Leaves s t u :=
      leaves_interfaceRow (code := 0x65) rfl rfl hbreak hroom rfl h
    exact ⟨fun h => echo (sequenceArrives_taken rfl (echoCommand_set h s)), fun h => echo (sequenceArrives_refused rfl (echoCommand_bad h s))⟩
  · obtain rfl : params = [x, y] := hparams
    have format {u : State} (h : sequenceArrives 0x66 tag false [x, y] s = u) :
        ∃ t, exec (.linkFormat ⟨.interface, tag, [x, y]⟩) s = .next t ∧ Leaves s t u :=
      leaves_interfaceRow (code := 0x66) rfl rfl hbreak hroom rfl h
    exact ⟨fun _ _ hrate hfmt => format (sequenceArrives_taken rfl (linkFormatCommand_set hrate hfmt s)),
      fun h => format (sequenceArrives_refused rfl (linkFormatCommand_bad h s))⟩

/-- Settles O57, command by command and port by port. -/
theorem linksAndDisplaySet : Obligations.LinksAndDisplaySet := ⟨linkSettingsTaken, interfaceSettingsTaken⟩

theorem consoleOnlyTurnedAway : Sys2Proof.Claims.ConsoleOnlyTurnedAway := by
  rintro s ⟨port, tag, params⟩ hport hbreak hroom turnedAway
  obtain rfl : port = .interface := hport
  have row {row : Instr} {code : Byte} (params' : List Byte)
      (hrow : exec row s = done s (commandArrives code ⟨.interface, tag, params⟩ params' s))
      (hmatch : paramsMatch code params' = true) (hcls : codeClass code = some .consoleOnly) : turnedAway row code :=
    leaves_notAllowed hrow rfl hbreak hroom hmatch hcls
  refine ⟨?_, ?_, ?_, ?_, ?_⟩
  · rintro rfl
    exact ⟨row _ rfl rfl rfl, row _ rfl rfl rfl, row _ rfl rfl rfl, row _ rfl rfl rfl, row _ rfl rfl rfl, row _ rfl rfl rfl,
      row _ rfl rfl rfl, row _ rfl rfl rfl, row _ rfl rfl rfl, row _ rfl rfl rfl, row _ rfl rfl rfl, row _ rfl rfl rfl⟩
  · rintro x rfl
    exact ⟨row _ rfl rfl rfl, row _ rfl rfl rfl, row _ rfl rfl rfl, row _ rfl rfl rfl⟩
  · rintro n letters rfl hlength
    exact ⟨row _ rfl (paramsMatch_wordList (.inl rfl) hlength) rfl, row _ rfl (paramsMatch_wordList (.inl rfl) hlength) rfl,
      row _ rfl (paramsMatch_wordList (.inr rfl) hlength) rfl, row _ rfl (paramsMatch_wordList (.inr rfl) hlength) rfl⟩
  · rintro x y z rfl
    exact row _ rfl rfl rfl
  · rintro x y k rest rfl hlength
    exact row _ rfl (paramsMatch_wheelMap hlength) rfl

theorem interfaceCommandLost : Sys2Proof.Claims.InterfaceCommandLost := by
  intro s a hport row hrow
  obtain ⟨code, params, harrives⟩ := exec_immediate a s row hrow
  rw [harrives]
  refine ⟨fun hbreak => ?_, fun hbreak hfull => ?_⟩
  · rw [commandArrives_inBreak hport hbreak]
    exact leaves_done s s
  · rw [commandArrives_overrun hport hbreak hfull]
    exact leaves_done s _

/-- Settles O60: every immediate command's row is one arrival of its code, and the arrival makes the tests. -/
theorem consoleCommandsNotAllowed : Obligations.ConsoleCommandsNotAllowed := ⟨consoleOnlyTurnedAway, interfaceCommandLost⟩

end Sys2Proof.Proofs
end

-- ==== Sys2Proof/Proofs/MechanismRows ====
section
/-! SUPPORT. The immediate commands of the mechanism: RESUME, CLEAR FAULT, CONTINUE, CANCEL PENDING and RESET ENGINE. -/

namespace Sys2Proof.Machine

variable {s : State}

/-! ### Homing started or kept waiting (R86) -/

theorem not_busy {s : State} (hfault : s.seq.fault = false) (hhoming : s.seq.homing = false) (hmoving : s.seq.moving = false) :
    ¬(s.seq.fault || s.seq.homing || s.seq.moving) = true := by simp [hfault, hhoming, hmoving]

theorem settle_startsHoming (hfault : s.seq.fault = false) (hhoming : s.seq.homing = false) (hmoving : s.seq.moving = false)
    (hrequest : s.seq.homingRequest = true) (hcover : s.seq.holds.coverOpen = false) :
    settle false s = { s with seq := { s.seq with homingRequest := false, motion := .homeCarriage, attempts := 0 } } :=
  settle_of_began ((if_neg (not_busy hfault hhoming hmoving)).trans ((if_pos hrequest).trans (if_neg (by simp [hcover]))))
    (.inr (.inl rfl))

theorem settle_waitsForCover (hrequest : s.seq.homingRequest = true) (hcover : s.seq.holds.coverOpen = true) :
    settle false s = s := by
  refine settle_of_nothing ?_
  simp only [beginTest, hrequest, hcover, if_true, ite_self]

/-! ### RESUME (R91) -/

theorem resumeOp_inFault (h : s.seq.fault = true) : resumeOp s = (.refused .inFault, s) := by
  simp [resumeOp, Sequencer.state, h]

theorem resumeOp_busy (hfault : s.seq.fault = false) (h : s.seq.homing = true ∨ s.seq.moving = true) :
    resumeOp s = (.refused .busy, s) := by
  cases hhoming : s.seq.homing with
  | true => simp [resumeOp, Sequencer.state, hfault, hhoming]
  | false =>
    have moving : s.seq.moving = true := h.resolve_left (by simp [hhoming])
    simp [resumeOp, Sequencer.state, hfault, hhoming, moving]

theorem resumeOp_taken (hfault : s.seq.fault = false) (hhoming : s.seq.homing = false) (hmoving : s.seq.moving = false) :
    resumeOp s = (.accepted [], settle false (requestHoming s)) := by
  have resting : s.seq.state = .idle ∨ s.seq.state = .blocked := by
    simp only [Sequencer.state, hfault, hhoming, hmoving]
    cases s.seq.homingRequest && s.seq.holds.coverOpen
    · cases s.seq.candidate with
      | none => by_cases h : s.seq.holds = Holds.none <;> simp [h]
      | some e => cases s.seq.holds.holds e <;> simp
    · simp
  rcases resting with h | h <;> simp only [resumeOp, h]

/-! ### CONTINUE (R92) -/

theorem stateAfterChange_empty {q : Sequencer} (hfault : q.fault = false) (hhoming : q.homing = false) (hmoving : q.moving = false)
    (hrequest : q.homingRequest = false) (hcandidate : q.candidate = none) :
    q.stateAfterChange = if q.holds = Holds.none then .idle else .blocked := by
  simp [Sequencer.stateAfterChange, hfault, hhoming, hmoving, hrequest, hcandidate]

/-! ### CANCEL PENDING (R70) -/

theorem settle_quiet (hbusy : s.Engaged) (hnobody : s.NobodyWaits) (freed : Bool) : settle freed s = s := by
  change settleLoop (s.seq.queue.length + 8191 + 1) freed s = s
  simp [settleLoop, onFreed_of_nobodyWaits hnobody, beginTest_engaged s hbusy]

theorem queuedPrintGroups_length (s : State) : (queuedPrintGroups s).length = s.seq.queue.countP SEntry.isPrint := by
  rw [queuedPrintGroups, List.length_filterMap_eq_countP]
  refine List.countP_congr fun e _ => ?_
  cases e <;> simp [SEntry.isPrint]

theorem mem_queuedPrintGroups {g : Nat} : g ∈ queuedPrintGroups s ↔ ∃ e ∈ s.seq.queue, e.isPrintOf g = true := by
  rw [queuedPrintGroups, List.mem_filterMap]
  refine exists_congr fun e => and_congr_right fun _ => ?_
  cases e <;> simp [SEntry.isPrintOf]

/-- R70: the entries whose strikes are removed, named by the queue. -/
theorem any_queuedPrintGroups (e : Entry) :
    (e.group.any (queuedPrintGroups s).contains) = e.group.any fun g => s.seq.queue.any (SEntry.isPrintOf g) := by
  refine congrArg (fun f => e.group.any f) (funext fun g => ?_)
  rw [Bool.eq_iff_iff, List.contains_iff_mem, mem_queuedPrintGroups, List.any_eq_true]

theorem respell_openTxn (s : State) : respell (openTxn s) = openTxn (respell s) := by
  have line : (openTxn s).comp.line = s.comp.line := rfl
  unfold respell
  rw [line]
  cases s.comp.line <;> rfl

theorem respell_seq_comp (s : State) : (respell s).seq = s.seq ∧ (respell s).arb = s.arb ∧
    (respell s).comp.printLine = s.comp.printLine ∧ (respell s).comp.correction = s.comp.correction := by
  refine ⟨respell_seq s, respell_arb s, ?_, respell_correction s⟩
  unfold respell
  split <;> rfl

/-- R65, R70: CANCEL PENDING with the print line FREE and PITCH CHANGED not in the set. -/
theorem cancelPending_of_free (hfree : s.comp.printLine = none) (hpitch : s.seq.holds.pitchChanged = false) :
    cancelPending s =
      (let s1 := s.setSeq { s.seq with queue := s.seq.queue.filter fun e => !e.isPrint }
      if queuedPrintGroups s = [] then s1 else cancelComposeLine (queuedPrintGroups s) s1) := by
  let s1 := s.setSeq { s.seq with queue := s.seq.queue.filter fun e => !e.isPrint }
  let s2 := if queuedPrintGroups s = [] then s1 else cancelComposeLine (queuedPrintGroups s) s1
  have free : s2.comp.printLine = none ∧ s2.seq = s1.seq := by
    unfold s2
    split
    · exact ⟨hfree, rfl⟩
    · obtain ⟨seq, -, line, -⟩ := respell_seq_comp (setPoint _ (s1.setEntries (s1.entries.filter fun e =>
        !(e.group.any (queuedPrintGroups s).contains))))
      exact ⟨line.trans hfree, seq⟩
  have kept : s2.comp.printLine.map (cancelPrintLine (queuedPrintGroups s)) = s2.comp.printLine := by rw [free.1]; rfl
  have absent : s2.seq.holds.get .pitchChanged = false := by rw [free.2]; exact hpitch
  change leaveHold .pitchChanged { s2 with comp := { s2.comp with
    printLine := s2.comp.printLine.map (cancelPrintLine (queuedPrintGroups s)) } } = s2
  rw [kept]
  exact leaveHold_absent absent

theorem cancelledEntries_of_free (hfree : s.comp.printLine = none) (groups : List Nat) :
    cancelledEntries groups s = s.entries.countP fun e => e.group.any groups.contains := by
  rw [cancelledEntries, hfree, cancelled, List.countP_eq_length_filter]
  rfl

theorem cancelPendingOp_eq {u : State} (hfree : s.comp.printLine = none) (hu : cancelPending s = u) (hbusy : u.Engaged)
    (hnobody : u.NobodyWaits) :
    cancelPendingOp s = (.accepted (byte (s.seq.queue.countP SEntry.isPrint) ::
      bytes16 (s.entries.countP fun e => e.group.any (queuedPrintGroups s).contains)), u) := by
  simp only [cancelPendingOp, hu, settle_quiet hbusy hnobody, cancelledEntries_of_free hfree, queuedPrintGroups_length]

end Sys2Proof.Machine

namespace Sys2Proof.Proofs
open Sys2Proof.Machine

/-- Settles O52, by the sequencer's state at the command. -/
theorem mechanismCommands : Obligations.MechanismCommands := by
  unfold Obligations.MechanismCommands
  intro s a hport hparams homing
  have resume {ans : Answer} {u : State} (h : resumeOp (openTxn s) = (ans, openTxn u)) :
      ∃ t, exec (.resume a) s = .next t ∧ Leaves s t (u.answered ans.bytes ans.takes) :=
    leaves_consoleRow (code := 0x78) rfl hport rfl nofun (by rw [hparams]; rfl) h
  have clear {ans : Answer} {u : State} (h : clearFaultOp (openTxn s) = (ans, openTxn u)) :
      ∃ t, exec (.clearFault a) s = .next t ∧ Leaves s t (u.answered ans.bytes ans.takes) :=
    leaves_consoleRow (code := 0x63) rfl hport rfl nofun (by rw [hparams]; rfl) h
  have goOn {u : State} (h : settle false (leaveHold .pitchChanged (openTxn s)) = openTxn u) :
      ∃ t, exec (.continueCmd a) s = .next t ∧ Leaves s t (u.answered [0, 0] false) :=
    leaves_consoleRow (code := 0x6E) (ans := .accepted []) rfl hport rfl nofun (by rw [hparams]; rfl) (Prod.ext rfl h)
  refine ⟨fun hfault => resume (resumeOp_inFault hfault), fun hfault hbusy => resume (resumeOp_busy (s := openTxn s) hfault hbusy),
    fun hfault hhoming hmoving hcover => ?_, fun hfault hhoming hmoving hcover => ?_, fun hfault => ?_,
    fun hfault hhoming hmoving => ?_, fun hpitch hnothing => ?_, fun hpitch hfault hhoming hmoving hrequest hflight hqueue => ?_⟩
  · have taken := resumeOp_taken (s := openTxn s) hfault hhoming hmoving
    rw [settle_startsHoming (s := requestHoming (openTxn s)) hfault hhoming hmoving rfl hcover] at taken
    exact resume (ans := .accepted []) (u := homing s) taken
  · have taken := resumeOp_taken (s := openTxn s) hfault hhoming hmoving
    rw [settle_waitsForCover (s := requestHoming (openTxn s)) rfl hcover] at taken
    exact resume (ans := .accepted []) taken
  · exact clear (ans := .refused .noFault) (if_neg (show ¬s.seq.fault = true by simp [hfault]))
  · intro u
    have taken : clearFaultOp (openTxn s) = (.accepted [], settle false (openTxn u)) := if_pos hfault
    cases hcover : s.seq.holds.coverOpen with
    | true =>
      rw [settle_waitsForCover (s := openTxn u) rfl hcover] at taken
      exact clear (ans := .accepted []) taken
    | false =>
      rw [settle_startsHoming (s := openTxn u) rfl hhoming hmoving rfl hcover] at taken
      exact clear (ans := .accepted []) (u := homing u) taken
  · refine goOn ?_
    rw [leaveHold_absent (h := .pitchChanged) (s := openTxn s) hpitch]
    rcases hnothing with hbusy | ⟨hidle, hflight⟩
    · exact settle_engaged (openTxn s) hbusy
    · exact settle_of_nothing (beginTest_of_nothingToBegin (s := openTxn s) hidle hflight)
  · intro h x u
    have candidate : Sequencer.candidate { s.seq with holds := h } = none := by
      simp only [Sequencer.candidate, hflight, hqueue, List.head?_nil]
    have state : Sequencer.stateAfterChange { s.seq with holds := h } = x :=
      stateAfterChange_empty hfault hhoming hmoving hrequest candidate
    have left : leaveHold .pitchChanged (openTxn s) = openTxn u := by
      rw [leaveHold_leaves (h := .pitchChanged) (s := openTxn s) hpitch]
      change openTxn { s with
        seq := { s.seq with holds := h }
        con := { s.con with
          reports := s.con.reports.add ⟨.mech (.left .pitchChanged) h (Sequencer.stateAfterChange { s.seq with holds := h }), 0, false⟩ } } = _
      rw [state]
    refine goOn ?_
    rw [left]
    refine settle_of_nothing (beginTest_of_nothingToBegin (s := openTxn u) ⟨fun h => ?_, fun e he => ?_⟩ hflight)
    · exact absurd (hrequest.symm.trans h) nofun
    · have none : s.seq.queue.head? = some e := he
      simp [hqueue] at none

/-- Settles O53, by whether a PRINT is queued. -/
theorem cancelPendingTaken : Obligations.CancelPendingTaken := by
  unfold Obligations.CancelPendingTaken
  intro s a hport hparams hbusy hpitch hfree hnobody isPrint gone u counts
  have row {ans : Answer} {w : State} (h : cancelPendingOp (openTxn s) = (ans, openTxn w)) :
      ∃ t, exec (.cancelPending a) s = .next t ∧ Leaves s t (w.answered ans.bytes ans.takes) :=
    leaves_consoleRow (code := 0x6B) rfl hport rfl nofun (by rw [hparams]; rfl) h
  have isPrint_eq : isPrint = SEntry.isPrint := by
    funext e
    cases e <;> rfl
  have gone_eq : (fun e : Entry => e.group.any (queuedPrintGroups s).contains) = gone := by
    funext e
    rw [any_queuedPrintGroups]
    refine congrArg (fun f => e.group.any f) (funext fun g => congrArg s.seq.queue.any (funext fun x => ?_))
    cases x <;> rfl
  have same : queuedPrintGroups (openTxn s) = queuedPrintGroups s := rfl
  refine ⟨fun hnone => ?_, fun hsome => ?_⟩
  · have noGroups : queuedPrintGroups s = [] := by
      rw [← List.length_eq_zero_iff, queuedPrintGroups_length, ← isPrint_eq, hnone]
    have kept : s.seq.queue.filter (fun e => !e.isPrint) = s.seq.queue := by
      rw [isPrint_eq, List.countP_eq_zero] at hnone
      exact List.filter_eq_self.2 fun e he => by simpa using hnone e he
    have unchanged : cancelPending (openTxn s) = openTxn s := by
      rw [cancelPending_of_free (s := openTxn s) hfree hpitch, same, noGroups, if_pos rfl]
      change openTxn { s with seq := { s.seq with queue := s.seq.queue.filter fun e => !e.isPrint } } = _
      rw [kept]
    have op := cancelPendingOp_eq (s := openTxn s) hfree unchanged hbusy hnobody
    have noEntry : (openTxn s).entries.countP (fun e => e.group.any (queuedPrintGroups (openTxn s)).contains) = 0 := by
      rw [same, noGroups, List.countP_eq_zero]
      intro e _
      cases e.group <;> simp
    have noPrint : (openTxn s).seq.queue.countP SEntry.isPrint = 0 := by rw [← isPrint_eq]; exact hnone
    rw [noEntry, noPrint] at op
    exact row op
  · intro v point
    have groups : queuedPrintGroups s ≠ [] := by
      rw [Ne, ← List.length_eq_zero_iff, queuedPrintGroups_length, ← isPrint_eq]
      exact hsome
    let w : State := respell { v with comp := { v.comp with printPoint := point } }
    have point_eq : (leastPos ((s.entries.filter gone).map Entry.pos)).getD s.comp.printPoint = point := by
      unfold point
      cases (s.entries.filter gone).map Entry.pos <;> rfl
    have cancelledLine : cancelPending (openTxn s) = openTxn w := by
      rw [cancelPending_of_free (s := openTxn s) hfree hpitch, same, if_neg groups, ← respell_openTxn, ← point_eq, ← gone_eq]
      unfold cancelComposeLine v u
      rw [isPrint_eq, ← gone_eq]
      rfl
    obtain ⟨hseq, harb, hprintLine, hcorrection⟩ := respell_seq_comp { v with comp := { v.comp with printPoint := point } }
    have busy : (openTxn w).Engaged :=
      engaged_seq v (openTxn w) hbusy (congrArg Sequencer.fault hseq) (congrArg Sequencer.motion hseq)
        (congrArg Sequencer.inflight hseq)
    have nobody : (openTxn w).NobodyWaits := by
      obtain ⟨h1, h2, h3, h4, h5⟩ := hnobody
      exact ⟨hprintLine.trans h1, hcorrection.trans h2, (congrArg Arbiter.flushPending harb).trans h3,
        (congrArg Arbiter.takeover harb).trans h4, (congrArg Arbiter.headWaiting harb).trans h5⟩
    have op := cancelPendingOp_eq (s := openTxn s) hfree cancelledLine busy nobody
    rw [same, gone_eq, ← isPrint_eq] at op
    exact row op

end Sys2Proof.Proofs
end

-- ==== Sys2Proof/Proofs/EngineRows ====
section
/-! SUPPORT. RESET ENGINE, block by block. -/

namespace Sys2Proof.Machine

/-- R196: the state that RESET ENGINE leaves but for PITCH CHANGED and the homing, with the records of the console's report queue. -/
def State.engineReset (s : State) (holds : Holds) (records : List Record) : State :=
  let lm := s.comp.pendingLm.getD s.comp.lm
  { s with
    con := { s.con with
      inbound := [], reports := ⟨records, false, 0, false⟩, frameError := false, overrun := false, txn := .none }
    ifl := { s.ifl with
      inbound := [], reports := ⟨[], false, 0, false⟩, framing := false, parity := false, overrun := false
      framingCount := 0, parityCount := 0, overrunCount := 0, assembly := .idle
      tx := s.ifl.tx.map fun x => { x with queued := false } }
    comp := { s.comp with
      line := none, printLine := none, printPoint := lm, vpos := 0, lm := lm, pendingLm := none
      consoleBold := false, consoleUnderline := false, interfaceBold := false, interfaceUnderline := false
      marginRelease := false, alignment := none, lineCounter := 0, correction := none, lastRefusal := none }
    arb := { s.arb with
      grant := none, remoteHold := false, timer := none, takeover := false, flushPending := false, headWaiting := false }
    seq := { s.seq.resetEngine with holds := holds }
    mem := []
    spell := { s.spell with words := [], checks := (s.spell.checks.take 1).map fun c => { c with discarded := true } } }

theorem resetEngine_moving (q : Sequencer) : q.resetEngine.moving = q.moving := by
  unfold Sequencer.resetEngine Sequencer.moving
  cases q.inflight with
  | none => rfl
  | some f => cases hstopped : f.stopped <;> simp [hstopped]

/-- R94, R96: the state that PITCH CHANGED's MECH report carries when RESET ENGINE takes it out of the set. -/
theorem resetEngine_stateAfterChange (q : Sequencer) (holds : Holds) :
    Sequencer.stateAfterChange { q.resetEngine with holds := holds } =
      if q.homing then .homing else if q.moving then .running else if holds.coverOpen then .blocked else .homing := by
  have moving : Sequencer.moving { q.resetEngine with holds := holds } = q.moving := resetEngine_moving q
  have homing : Sequencer.homing { q.resetEngine with holds := holds } = q.homing := rfl
  unfold Sequencer.stateAfterChange
  rw [moving, homing]
  rfl

theorem resetEngine_eq (s : State) :
    resetEngine (openTxn s) =
      let h := { s.seq.holds with pitchChanged := false }
      let x : SeqState :=
        if s.seq.homing then .homing else if s.seq.moving then .running else if s.seq.holds.coverOpen then .blocked else .homing
      s.engineReset h
        (⟨.engineReset, 0, true⟩ :: if s.seq.holds.pitchChanged then [⟨.mech (.left .pitchChanged) h x, 0, false⟩] else []) := by
  have emptied : resetEngine (openTxn s) = leaveHold .pitchChanged (s.engineReset s.seq.holds [⟨.engineReset, 0, true⟩]) := by
    have checks := dropChecks_eq (goes := fun _ => true) (drops := fun _ => false) (cs := s.spell.checks)
      (discard := fun c => { c with discarded := true }) (fun _ => rfl) fun _ => rfl
    rw [List.filter_false, List.append_nil] at checks
    unfold State.engineReset
    rw [← checks]
    rfl
  rw [emptied]
  cases hpitch : s.seq.holds.pitchChanged with
  | false =>
    have same : { s.seq.holds with pitchChanged := false } = s.seq.holds := by rw [← hpitch]
    dsimp only
    rw [same]
    exact leaveHold_absent (h := .pitchChanged) hpitch
  | true =>
    let h : Holds := { s.seq.holds with pitchChanged := false }
    have left : leaveHold .pitchChanged (s.engineReset s.seq.holds [⟨.engineReset, 0, true⟩]) =
        s.engineReset h [⟨.engineReset, 0, true⟩,
          ⟨.mech (.left .pitchChanged) h (Sequencer.stateAfterChange { s.seq.resetEngine with holds := h }), 0, false⟩] :=
      leaveHold_leaves (h := .pitchChanged) (s := s.engineReset s.seq.holds [⟨.engineReset, 0, true⟩]) hpitch
    rw [left, resetEngine_stateAfterChange]
    rfl

end Sys2Proof.Machine

namespace Sys2Proof.Proofs
open Sys2Proof.Machine

/-- Settles O59: the reset has one form, and only whether a homing starts depends on what moves. -/
theorem engineReset : Obligations.EngineReset := by
  unfold Obligations.EngineReset
  intro s a hport hparams lm starts h x left
  let w := s.engineReset h (⟨.engineReset, 0, true⟩ :: left)
  have row {u : State} (hsettled : settle false w = openTxn u) :
      ∃ t, exec (.resetEngine a) s = .next t ∧ Leaves s t (u.answered [0, 0] false) := by
    refine leaves_consoleRow (code := 0x7A) (ans := .accepted []) rfl hport rfl nofun (by rw [hparams]; rfl) ?_
    change (Answer.accepted [], settle false (resetEngine (openTxn s))) = _
    rw [resetEngine_eq]
    exact Prod.ext rfl hsettled
  have moving : w.seq.moving = s.seq.moving := resetEngine_moving s.seq
  cases hstarts : starts with
  | true =>
    simp only [starts, Bool.and_eq_true, Bool.not_eq_true'] at hstarts
    obtain ⟨⟨hmoving, hhoming⟩, hcover⟩ := hstarts
    exact row (u := { w with seq := { w.seq with homingRequest := false, motion := .homeCarriage, attempts := 0 } })
      (settle_startsHoming (s := w) rfl hhoming (moving.trans hmoving) rfl hcover)
  | false =>
    have stays : settle false w = w := by
      cases hcover : s.seq.holds.coverOpen with
      | true => exact settle_waitsForCover (s := w) rfl hcover
      | false =>
        simp only [starts, hcover, Bool.not_false, Bool.and_true, Bool.and_eq_false_iff, Bool.not_eq_false'] at hstarts
        refine settle_engaged w ?_
        rcases hstarts with hmoving | hhoming
        · exact .inr (.inr (moving.trans hmoving))
        · exact .inr (.inl hhoming)
    exact row (u := w) stays

end Sys2Proof.Proofs
end

-- ==== Sys2Proof/Proofs/WheelRows ====
section
/-! SUPPORT. WHEEL DEFINE and WHEEL MAP. -/

namespace Sys2Proof.Machine

variable {s : State}

theorem joinHold_openTxn (h : Hold) (s : State) : joinHold h (openTxn s) = openTxn (joinHold h s) := by
  cases hin : s.seq.holds.get h with
  | false =>
    rw [joinHold_joins hin, joinHold_joins (s := openTxn s) hin]
    rfl
  | true => rw [joinHold_present hin, joinHold_present (s := openTxn s) hin]

theorem leaveHold_openTxn (h : Hold) (s : State) : leaveHold h (openTxn s) = openTxn (leaveHold h s) := by
  cases hin : s.seq.holds.get h with
  | false => rw [leaveHold_absent hin, leaveHold_absent (s := openTxn s) hin]
  | true =>
    rw [leaveHold_leaves hin, leaveHold_leaves (s := openTxn s) hin]
    rfl

theorem joinHold_engaged {h : Hold} (hbusy : s.Engaged) : (joinHold h s).Engaged := by
  unfold joinHold
  split
  · exact hbusy
  · exact hbusy

theorem leaveHold_engaged {h : Hold} (hbusy : s.Engaged) : (leaveHold h s).Engaged := by
  unfold leaveHold leaveHoldAs
  split
  · exact hbusy
  · exact hbusy

/-! ### WHEEL DEFINE (R3 to R5) -/

theorem pitchOfCode_isSome {n : Nat} (h : n ≤ 3) : ∃ x, pitchOfCode n = some x := by interval_cases n <;> exact ⟨_, rfl⟩

theorem pitchOfCode_eq_none {n : Nat} (h : 3 < n) : pitchOfCode n = none := by
  obtain ⟨k, rfl⟩ := Nat.exists_eq_add_of_le' (show 4 ≤ n from h)
  rfl

theorem strikesOutstanding_eq (s : State) :
    strikesOutstanding s = (s.seq.queue ++ (s.seq.inflight.map InFlight.entry).toList).any SEntry.strikes := by
  unfold strikesOutstanding
  cases s.seq.inflight <;> simp

section
variable {slot code pitch : Byte} {x : Pitch}

theorem wheelDefineCommand_bad (h : ¬(slot.toNat ≤ 7 ∧ 1 ≤ code.toNat ∧ code.toNat ≤ 63 ∧ pitch.toNat ≤ 3)) :
    wheelDefineCommand [slot, code, pitch] s = (.refused .badParameter, s) := by
  by_cases hpitch : pitch.toNat ≤ 3
  · obtain ⟨x, hx⟩ := pitchOfCode_isSome hpitch
    simp only [wheelDefineCommand, hx]
    exact if_neg (by tauto)
  · simp only [wheelDefineCommand, pitchOfCode_eq_none (not_le.1 hpitch)]

theorem wheelDefineCommand_inRange (h : slot.toNat ≤ 7 ∧ 1 ≤ code.toNat ∧ code.toNat ≤ 63 ∧ pitch.toNat ≤ 3)
    (hx : pitchOfCode pitch.toNat = some x) :
    wheelDefineCommand [slot, code, pitch] s = wheelDefineOp slot.toNat code.toNat x s := by
  obtain ⟨hslot, hlow, hhigh, -⟩ := h
  simp only [wheelDefineCommand, hx]
  exact if_pos ⟨hslot, hlow, hhigh⟩

end

theorem wheelDefineOp_busy {slot code : Nat} {x : Pitch} (h : wheelBusy s (defineTarget s.wheels slot code) = true) :
    wheelDefineOp slot code x s = (.refused .busy, s) := if_pos h

theorem wheelDefineOp_defines {slot code target : Nat} {x : Pitch} (htarget : defineTarget s.wheels slot code = target)
    (h : wheelBusy s target = false) :
    wheelDefineOp slot code x s = (.accepted [byte target], settle false
      (followDescriptor s { s with wheels := s.wheels.set target (some (clearedDescriptor code x)) })) := by
  subst htarget
  exact if_neg (by simp [h])

/-! ### The holds that follow the descriptor (R8, R89) -/

theorem leaveHoldAs_leaves {h : Hold} {x : SeqState} (hin : s.seq.holds.get h = true) :
    leaveHoldAs h x s = { s with
      seq := { s.seq with holds := s.seq.holds.put h false }
      con := { s.con with reports := s.con.reports.add ⟨.mech (.left h) (s.seq.holds.put h false) x, 0, false⟩ } } := by
  simp [leaveHoldAs, hin, queueRecord]

/-- R89: with no PRINT waiting there is no pitch to differ. -/
theorem pitchDiffers_of_noPrint {d : Descriptor} (hqueue : ∀ e ∈ s.seq.queue, e.strikes = false)
    (hflight : ∀ f ∈ s.seq.inflight, f.stopped = true → f.entry.strikes = false) : pitchDiffers d s = false := by
  refine Bool.or_eq_false_iff.2 ⟨List.any_eq_false.2 fun e he => ?_, ?_⟩
  · have still := hqueue e he
    cases e with
    | print p => cases still
    | lift _ | move _ | feed _ _ | mark _ _ _ => exact Bool.false_ne_true
  · cases hf : s.seq.inflight with
    | none => rfl
    | some f =>
      rw [Option.any_some]
      cases hstopped : f.stopped with
      | false => rfl
      | true =>
        have still := hflight f hf hstopped
        cases hentry : f.entry with
        | print p => simp [hentry, SEntry.strikes] at still
        | lift _ | move _ | feed _ _ | mark _ _ _ => rfl

theorem pitchDiffers_of_queued {d : Descriptor} (h : ∃ e ∈ s.seq.queue, ∃ q, e = .print q ∧ q.pitch ≠ d.pitch) :
    pitchDiffers d s = true := by
  obtain ⟨e, he, q, rfl, hpitch⟩ := h
  exact Bool.or_eq_true_iff.2 (.inl (List.any_eq_true.2 ⟨_, he, bne_iff_ne.2 hpitch⟩))

/-- R8: a descriptor found anew, with no PRINT for the pitch test: WHEEL UNDEFINED leaves. -/
theorem followDescriptor_found {before after : State} {d : Descriptor} (hbefore : before.descriptor = none)
    (hafter : after.descriptor = some d) (hdiffers : pitchDiffers d after = false)
    (hpitch : after.seq.holds.pitchChanged = false) : followDescriptor before after = leaveHold .wheelUndefined after := by
  have state : definedState d after =
      Sequencer.stateAfterChange { after.seq with holds := after.seq.holds.put .wheelUndefined false } := by
    rw [definedState, hdiffers, Bool.or_false]
    rfl
  have followed : followDescriptor before after = pitchTest d (leaveHold .wheelUndefined after) := by
    simp only [followDescriptor, hbefore, hafter, state]
    rfl
  rw [followed]
  have same : ∀ w : State, w.seq.queue = after.seq.queue → w.seq.inflight = after.seq.inflight →
      w.seq.holds.pitchChanged = false → pitchTest d w = w := by
    intro w hqueue hflight hnot
    have differs : pitchDiffers d w = pitchDiffers d after := by rw [pitchDiffers, pitchDiffers, hqueue, hflight]
    rw [pitchTest, differs, hdiffers]
    exact leaveHold_absent (h := .pitchChanged) hnot
  cases hin : after.seq.holds.get .wheelUndefined with
  | false =>
    rw [leaveHold_absent hin]
    exact same after rfl rfl hpitch
  | true =>
    rw [leaveHold_leaves hin]
    exact same _ rfl rfl hpitch

/-- R8, R89: a descriptor found anew, from which a waiting PRINT's pitch differs: both holds change at one moment. -/
theorem followDescriptor_differs {before after : State} {d : Descriptor} (hbefore : before.descriptor = none)
    (hafter : after.descriptor = some d) (hdiffers : pitchDiffers d after = true) (hstate : definedState d after = .blocked)
    (hundefined : after.seq.holds.wheelUndefined = true) :
    followDescriptor before after = joinHold .pitchChanged { after with
      seq := { after.seq with holds := { after.seq.holds with wheelUndefined := false } }
      con := { after.con with
        reports := after.con.reports.add
          ⟨.mech (.left .wheelUndefined) { after.seq.holds with wheelUndefined := false } .blocked, 0, false⟩ } } := by
  simp only [followDescriptor, hbefore, hafter, hstate]
  rw [leaveHoldAs_leaves (h := .wheelUndefined) hundefined]
  exact if_pos hdiffers

theorem followDescriptor_lost {before after : State} {d : Descriptor} (hbefore : before.descriptor = some d)
    (hafter : after.descriptor = none) : followDescriptor before after = joinHold .wheelUndefined after := by
  simp only [followDescriptor, hbefore, hafter]

theorem followDescriptor_none {before after : State} (hbefore : before.descriptor = none) (hafter : after.descriptor = none) :
    followDescriptor before after = after := by simp only [followDescriptor, hbefore, hafter]

theorem followDescriptor_kept {before after : State} {d d' : Descriptor} (hbefore : before.descriptor = some d)
    (hafter : after.descriptor = some d') : followDescriptor before after = after := by
  simp only [followDescriptor, hbefore, hafter]

/-! ### PITCH CHANGED holds every entry (R72, R90) -/

theorem holds_of_pitchChanged {h : Holds} (hpitch : h.pitchChanged = true) (e : SEntry) : h.holds e = true := by
  simp [Holds.holds, hpitch]

theorem candidate_isSome {q : Sequencer} (h : q.queue ≠ []) : ∃ e, q.candidate = some e := by
  unfold Sequencer.candidate
  cases q.inflight with
  | some f => exact ⟨_, rfl⟩
  | none => exact ⟨_, List.head?_eq_some_head h⟩

theorem stateAfterChange_blocked {q : Sequencer} (hfault : q.fault = false) (hhoming : q.homing = false) (hmoving : q.moving = false)
    (hrequest : q.homingRequest = false) (hqueue : q.queue ≠ []) (hpitch : q.holds.pitchChanged = true) :
    q.stateAfterChange = .blocked := by
  obtain ⟨e, he⟩ := candidate_isSome hqueue
  simp [Sequencer.stateAfterChange, hfault, hhoming, hmoving, hrequest, he, holds_of_pitchChanged hpitch]

theorem settle_pitchChanged (hrequest : s.seq.homingRequest = false) (hpitch : s.seq.holds.pitchChanged = true) :
    settle false s = s := by
  refine settle_of_nothing ?_
  unfold beginTest
  split
  · rfl
  · rw [if_neg (by simp [hrequest])]
    cases s.seq.inflight with
    | some f => exact if_pos (holds_of_pitchChanged hpitch _)
    | none =>
      cases s.seq.queue with
      | nil => rfl
      | cons e rest => exact if_pos (holds_of_pitchChanged hpitch _)

/-! ### The slots of the wheel table -/

theorem findDescriptor_eq_none {wheels : List (Option Descriptor)} {code : Nat} (h : findDescriptor wheels code = none) :
    ∀ d, some d ∈ wheels → d.code ≠ code := by
  intro d hd same
  have absent := List.findSome?_eq_none_iff.1 h (some d) hd
  simp [same] at absent

theorem slotOfCode_eq_none {wheels : List (Option Descriptor)} {code : Nat} (h : findDescriptor wheels code = none) :
    slotOfCode wheels code = none := by
  refine List.findIdx?_eq_none_iff.2 fun o ho => ?_
  cases o with
  | none => rfl
  | some d => simpa using findDescriptor_eq_none h d ho

/-- R3: a code that no slot holds, defined in a slot. -/
theorem findDescriptor_set {wheels : List (Option Descriptor)} {d : Descriptor} {slot : Nat} (hslot : slot < wheels.length)
    (h : findDescriptor wheels d.code = none) : findDescriptor (wheels.set slot (some d)) d.code = some d := by
  have isNew : ∀ d', some d' ∈ wheels.set slot (some d) → d'.code = d.code → d' = d := fun d' hd' hcode => by
    rcases List.mem_or_eq_of_mem_set hd' with hold | hnew
    · exact absurd hcode (findDescriptor_eq_none h d' hold)
    · exact Option.some.inj hnew
  cases hfound : findDescriptor (wheels.set slot (some d)) d.code with
  | none => exact absurd rfl (findDescriptor_eq_none hfound d (List.mem_set hslot _))
  | some d' =>
    obtain ⟨o, ho, hd'⟩ := List.exists_of_findSome?_eq_some hfound
    obtain ⟨e, rfl, he⟩ := Option.bind_eq_some_iff.1 hd'
    split at he
    · rw [← Option.some.inj he, isNew e ho ‹_›]
    · cases he

/-! ### WHEEL MAP (R6, R7) -/

theorem wheelMapValid_iff {slot f k : Nat} {rs : List PetalRec} :
    wheelMapValid slot f k rs = true ↔ slot ≤ 7 ∧ k ≤ 20 ∧ f ≤ 99 ∧ f + k ≤ 100 ∧ ∀ r ∈ rs, r.valid = true := by
  simp only [wheelMapValid, Bool.and_eq_true, decide_eq_true_eq, List.all_eq_true, and_assoc]

section
variable {slot f k : Byte} {records : List Byte}

theorem wheelMapCommand_bad (h : ¬wheelMapValid slot.toNat f.toNat k.toNat (petalsOfBytes records) = true) :
    wheelMapCommand (slot :: f :: k :: records) s = (.refused .badParameter, s) := if_neg h

theorem wheelMapCommand_slotEmpty (h : wheelMapValid slot.toNat f.toNat k.toNat (petalsOfBytes records) = true)
    (hslot : s.wheels.getD slot.toNat none = none) :
    wheelMapCommand (slot :: f :: k :: records) s = (.refused .slotEmpty, s) := by
  refine (if_pos h).trans ?_
  rw [hslot]

theorem wheelMapCommand_busy {d : Descriptor} (h : wheelMapValid slot.toNat f.toNat k.toNat (petalsOfBytes records) = true)
    (hslot : s.wheels.getD slot.toNat none = some d) (hbusy : wheelBusy s slot.toNat = true) :
    wheelMapCommand (slot :: f :: k :: records) s = (.refused .busy, s) := by
  refine (if_pos h).trans ?_
  rw [hslot]
  exact if_pos hbusy

theorem wheelMapCommand_writes {d : Descriptor} (h : wheelMapValid slot.toNat f.toNat k.toNat (petalsOfBytes records) = true)
    (hslot : s.wheels.getD slot.toNat none = some d) (hfree : wheelBusy s slot.toNat = false) :
    wheelMapCommand (slot :: f :: k :: records) s = (.accepted [], { s with
      wheels := s.wheels.set slot.toNat (some { d with petals := writePetals d.petals f.toNat (petalsOfBytes records) }) }) := by
  refine (if_pos h).trans ?_
  rw [hslot]
  exact if_neg (by simp [hfree])

end

/-- R7: a petal after a petal record is written. -/
theorem writePetal_getElem? {petals : List PetalRec} {n m : Nat} {r q : PetalRec} (hn : n < petals.length)
    (hq : petals[m]? = some q) :
    (writePetal petals n r)[m]? =
      some (if m = n then r else if r.code ≠ none ∧ q.code = r.code then { q with code := none } else q) := by
  have mapped : (petals.map fun p => if r.code.isSome && p.code == r.code then { p with code := none } else p)[m]? =
      some (if r.code ≠ none ∧ q.code = r.code then { q with code := none } else q) := by
    rw [List.getElem?_map, hq, Option.map_some]
    refine congrArg some (if_congr ?_ rfl rfl)
    rw [Bool.and_eq_true, Option.isSome_iff_ne_none, beq_iff_eq]
  unfold writePetal
  by_cases same : m = n
  · subst same
    rw [if_pos rfl]
    exact List.getElem?_set_self (by simpa using hn)
  · rw [if_neg same, List.getElem?_set_ne (Ne.symm same), mapped]

end Sys2Proof.Machine

namespace Sys2Proof.Proofs
open Sys2Proof.Machine

theorem wheelDefined : Sys2Proof.Claims.WheelDefined := by
  intro s a slot code pitch hport hparams inRange target strikes mounted
  have row {ans : Answer} {u : State} (h : wheelDefineCommand [slot, code, pitch] (openTxn s) = (ans, openTxn u)) :
      ∃ t, exec (.wheelDefine a) s = .next t ∧ Leaves s t (u.answered ans.bytes ans.takes) :=
    leaves_consoleRow (code := 0x64) rfl hport rfl nofun (by rw [hparams]; rfl) (by rw [hparams]; exact h)
  have busy_eq : wheelBusy (openTxn s) target = (mounted && strikes) :=
    congrArg (mounted && ·) (strikesOutstanding_eq s)
  refine ⟨fun hout => row (wheelDefineCommand_bad hout), fun hin hmounted hstrikes => ?_,
    fun hin hfree hbusy hqueue hflight hpitch => ?_, fun x hin hx hcode hslot hnone hfault hhoming hmoving hrequest hundefined hpitch hprint => ?_⟩
  · obtain ⟨x, hx⟩ := pitchOfCode_isSome hin.2.2.2
    refine row ((wheelDefineCommand_inRange hin hx).trans (wheelDefineOp_busy ?_))
    change wheelBusy (openTxn s) target = true
    rw [busy_eq, hmounted, hstrikes]
    rfl
  · obtain ⟨x, hx⟩ := pitchOfCode_isSome hin.2.2.2
    refine ⟨x, hx, ?_⟩
    intro wheels u v
    have idle : wheelBusy (openTxn s) target = false := by
      rw [busy_eq]
      rcases hfree with h | h <;> simp [h]
    have followed : followDescriptor (openTxn s) (openTxn u) = openTxn v := by
      have before : (openTxn s).descriptor = findDescriptor s.wheels s.seq.mounted := rfl
      have after : (openTxn u).descriptor = findDescriptor wheels s.seq.mounted := rfl
      unfold v
      cases hb : findDescriptor s.wheels s.seq.mounted with
      | none =>
        cases ha : findDescriptor wheels s.seq.mounted with
        | none => exact followDescriptor_none (before.trans hb) (after.trans ha)
        | some d =>
          rw [followDescriptor_found (before.trans hb) (after.trans ha)
            (pitchDiffers_of_noPrint (s := openTxn u) hqueue hflight) hpitch, leaveHold_openTxn]
      | some d =>
        cases ha : findDescriptor wheels s.seq.mounted with
        | none => rw [followDescriptor_lost (before.trans hb) (after.trans ha), joinHold_openTxn]
        | some d' => exact followDescriptor_kept (before.trans hb) (after.trans ha)
    have busy : v.Engaged := by
      unfold v
      split
      · exact joinHold_engaged hbusy
      · exact leaveHold_engaged hbusy
      · exact hbusy
    have defined : wheelDefineCommand [slot, code, pitch] (openTxn s) = (.accepted [byte target], settle false
        (followDescriptor (openTxn s) (openTxn u))) :=
      (wheelDefineCommand_inRange hin hx).trans (wheelDefineOp_defines rfl idle)
    rw [followed, settle_engaged (openTxn v) busy] at defined
    exact row defined
  · intro h1 h2
    let d := clearedDescriptor code.toNat x
    let u : State := { s with wheels := s.wheels.set slot.toNat (some d) }
    have target_eq : target = slot.toNat := by
      have free := slotOfCode_eq_none hnone
      rw [← hcode] at free
      exact congrArg (Option.getD · slot.toNat) free
    have idle : wheelBusy (openTxn s) slot.toNat = false := by
      have elsewhere : ((openTxn s).wheels.getD slot.toNat none).any (fun d => d.code == s.seq.mounted) = false := by
        change (s.wheels.getD slot.toNat none).any _ = false
        rw [List.getD_eq_getElem _ _ hslot]
        cases hd : s.wheels[slot.toNat] with
        | none => rfl
        | some d => simpa using findDescriptor_eq_none hnone d (hd ▸ List.getElem_mem hslot)
      rw [wheelBusy]
      exact (congrArg (· && strikesOutstanding (openTxn s)) elsewhere).trans (Bool.false_and _)
    have found : (openTxn u).descriptor = some d := by
      have undefined : findDescriptor s.wheels d.code = none := (congrArg _ hcode).trans hnone
      have set := findDescriptor_set hslot undefined
      exact (congrArg (findDescriptor u.wheels) hcode.symm).trans set
    have differs : pitchDiffers d (openTxn u) = true := pitchDiffers_of_queued hprint
    have queued : s.seq.queue ≠ [] := by
      obtain ⟨e, he, -⟩ := hprint
      exact List.ne_nil_of_mem he
    have state : definedState d (openTxn u) = .blocked :=
      stateAfterChange_blocked hfault hhoming hmoving hrequest queued (by simp [differs])
    have state2 : Sequencer.stateAfterChange { s.seq with holds := h2 } = .blocked :=
      stateAfterChange_blocked hfault hhoming hmoving hrequest queued rfl
    let v : State := { u with
      seq := { s.seq with holds := h2 }
      con := { s.con with
        reports := (s.con.reports.add ⟨.mech (.left .wheelUndefined) h1 .blocked, 0, false⟩).add
          ⟨.mech (.joined .pitchChanged) h2 .blocked, 0, true⟩ } }
    have followed : followDescriptor (openTxn s) (openTxn u) = openTxn v := by
      refine (followDescriptor_differs (before := openTxn s) hnone found differs state hundefined).trans ?_
      rw [joinHold_joins (h := .pitchChanged) (by exact hpitch)]
      change openTxn { u with
        seq := { s.seq with holds := h2 }
        con := { s.con with
          reports := (s.con.reports.add ⟨.mech (.left .wheelUndefined) h1 .blocked, 0, false⟩).add
            ⟨.mech (.joined .pitchChanged) h2 (Sequencer.stateAfterChange { s.seq with holds := h2 }), 0, true⟩ } } = _
      rw [state2]
    have defined : wheelDefineCommand [slot, code, pitch] (openTxn s) = (.accepted [byte slot.toNat], settle false
        (followDescriptor (openTxn s) (openTxn u))) :=
      (wheelDefineCommand_inRange hin hx).trans (wheelDefineOp_defines target_eq idle)
    rw [followed, settle_pitchChanged (s := openTxn v) hrequest rfl, byte, BitVec.ofNat_toNat, BitVec.setWidth_eq] at defined
    exact row (ans := .accepted [slot]) defined

theorem wheelMapped : Sys2Proof.Claims.WheelMapped := by
  refine ⟨fun s a slot f k rest hport hparams hlength => ?_, fun petals n m r q hn hq => writePetal_getElem? hn hq⟩
  intro rs inRange strikes
  have row {ans : Answer} {u : State} (h : wheelMapCommand (slot :: f :: k :: rest) (openTxn s) = (ans, openTxn u)) :
      ∃ t, exec (.wheelMap a) s = .next t ∧ Leaves s t (u.answered ans.bytes ans.takes) :=
    leaves_consoleRow (code := 0x6D) rfl hport rfl nofun (by rw [hparams]; exact paramsMatch_wheelMap hlength)
      (by rw [hparams]; exact h)
  refine ⟨fun hout => row (wheelMapCommand_bad (mt wheelMapValid_iff.1 hout)),
    fun hin hempty => row (wheelMapCommand_slotEmpty (s := openTxn s) (wheelMapValid_iff.2 hin) hempty), fun d hin hd => ?_⟩
  have busy_eq : wheelBusy (openTxn s) slot.toNat = ((d.code == s.seq.mounted) && strikes) := by
    have slot_eq : (openTxn s).wheels.getD slot.toNat none = some d := hd
    have strikes_eq : strikesOutstanding (openTxn s) = strikes := strikesOutstanding_eq s
    rw [wheelBusy, slot_eq, strikes_eq]
    rfl
  refine ⟨fun hmounted hstrikes => row (wheelMapCommand_busy (s := openTxn s) (wheelMapValid_iff.2 hin) hd ?_),
    fun hfree => row (ans := .accepted []) (wheelMapCommand_writes (s := openTxn s) (wheelMapValid_iff.2 hin) hd ?_)⟩
  · rw [busy_eq, hmounted, hstrikes]
    simp
  · rw [busy_eq]
    rcases hfree with h | h <;> simp [h]

/-- Settles O58, by the slot a WHEEL DEFINE goes to and whether the mounted code has a descriptor before and after it. -/
theorem wheelTableWritten : Obligations.WheelTableWritten := ⟨wheelDefined, wheelMapped⟩

end Sys2Proof.Proofs
end

-- ==== Sys2Proof/Proofs/WordTable ====
section
/-! SUPPORT. The word table derived again (R132, R135, R136), and an entry that joins the line. -/

namespace Sys2Proof.Machine

theorem completeWord_entries (u : Spelling) (v : Nat) (p : Port) (w : WordRec) : (u.completeWord v p w).1.entries = w.entries := by
  unfold Spelling.completeWord
  dsimp only
  repeat' split
  all_goals rfl

/-- R135: the table holds one word for each word found, with its entries. -/
theorem enterWords_entries (v : Nat) (p : Port) (old : List WordRec) : ∀ (found : List FoundWord) (u : Spelling),
    (u.enterWords v p old found).1.map WordRec.entries = found.map FoundWord.groups := by
  intro found
  induction found with
  | nil => exact fun _ => rfl
  | cons f rest ih =>
    intro u
    have kept : ((old.find? fun o => o.entries == f.groups).getD f.fresh).entries = f.groups := by
      cases hfound : old.find? fun o => o.entries == f.groups with
      | none => rfl
      | some o => simpa using List.find?_some hfound
    simp only [Spelling.enterWords, List.map_cons, ih]
    congr 1
    split
    · rw [completeWord_entries, kept]
    · exact kept

theorem markEntries_unmarked (ws : List WordRec) (es : List Entry) :
    (markEntries ws es).map (fun x => { x with marker := false }) = es.map fun x => { x with marker := false } := by
  simp [markEntries, Function.comp_def]

/-- R136: the marker stands on the entries of UNKNOWN and FLAGGED words. -/
theorem marker_iff {ws : List WordRec} {es : List Entry} {x : Entry} (hx : x ∈ markEntries ws es) :
    x.marker = true ↔ ∃ w ∈ ws, (w.state = .unknown ∨ w.state = .flagged) ∧ ∃ g ∈ x.group, g ∈ w.entries := by
  obtain ⟨e, -, rfl⟩ := List.mem_map.1 hx
  simp [Option.any_eq_true]

/-- R135: the words of an open line derived again: the table lists the words found, and the markers follow it. -/
theorem respell_of_line {s : State} {l : ComposeLine} (h : s.comp.line = some l) :
    ∃ u : Spelling, u.words.map WordRec.entries = (wordsOf l.entries).map FoundWord.groups ∧
      respell s = { s with
        spell := u
        comp := { s.comp with line := some { l with entries := markEntries u.words l.entries } } } := by
  let gone := s.spell.words.filter fun o => !((wordsOf l.entries).any fun f => f.groups == o.entries)
  let kept := { s.spell with checks := dropChecks (fun c => gone.any fun o => o.checkId == some c.id) s.spell.checks }
  let entered := kept.enterWords l.vpos l.port s.spell.words (wordsOf l.entries)
  refine ⟨{ entered.2 with words := entered.1 }, enterWords_entries .., ?_⟩
  unfold respell
  rw [h]
  simp only [refreshMarkers, State.setEntries, State.entries, h, Option.map_some, Option.getD_some]
  rfl

end Sys2Proof.Machine

namespace Sys2Proof.Proofs
open Sys2Proof.Machine

theorem entryJoinsTheLine : Sys2Proof.Claims.EntryJoinsTheLine := by
  refine ⟨fun s p hline => ?_, fun s p l hline => ?_, fun s l e n hline => ?_⟩
  · rw [openLine, hline]
    rfl
  · rw [openLine, hline]
  · intro es
    have inserted : s.setEntries (insertEntry s.entries e) = { s with comp := { s.comp with line := some { l with entries := es } } } := by
      simp only [State.setEntries, State.entries, hline, Option.map_some, Option.getD_some]
      rfl
    obtain ⟨u, words, respelt⟩ := respell_of_line (l := { l with entries := es }) (s := { s with
      comp := { s.comp with line := some { l with entries := es }, printPoint := n } }) rfl
    have joined : addEntry e n s = respell { s with
        comp := { s.comp with line := some { l with entries := es }, printPoint := n } } := by rw [addEntry, inserted]
    rw [joined, respelt]
    exact ⟨markEntries u.words es, rfl, markEntries_unmarked .., words, fun x hx => marker_iff hx, rfl, rfl, rfl, rfl, rfl⟩

/-- Settles O51: what respelling the line leaves, and the cyclic search for a free number. -/
theorem entryJoinsWithFreeGroup : Obligations.EntryJoinsWithFreeGroup := ⟨entryJoinsTheLine, groupNumberIsFree⟩

end Sys2Proof.Proofs
end

-- ==== Sys2Proof/Proofs/Checks ====
section
/-! SUPPORT. The completion of a spelling check (R140 to R144, R151). -/

namespace Sys2Proof.Machine

variable {s : State} {c : Check} {rest : List Check}

theorem leaves_completeCheck {u : State} (hhead : s.arb.headWaiting = false) (hu : completeCheck s = u) :
    ∃ t, exec .checkCompletion s = .next t ∧ Leaves s t u := by
  have quiet : returnWaits (completeCheck s) = false := by
    rw [returnWaits, completeCheck_arb, hhead]
    rfl
  have event : checkEvent s = u := by
    rw [checkEvent, if_neg (by simp [quiet]), settleIfQueued_same _ _ (by rw [completeCheck_seq]), hu]
  change ∃ t, done s (checkEvent s) = .next t ∧ _
  rw [event]
  exact leaves_done s u

/-- R141: the decision on a word, by its list and else by its signature. -/
theorem decision_eq (u : Spelling) (letters : List Byte) :
    u.decision letters =
      if letters ∈ u.rejectWords then (.flagged, .rejectList)
      else if letters ∈ u.userWords then (.known, .userList)
      else (if Config.signature (signatureIndices letters).1 && Config.signature (signatureIndices letters).2.1 &&
        Config.signature (signatureIndices letters).2.2 then .known else .unknown, .signature) := by
  unfold Spelling.decision
  refine if_congr List.contains_iff_mem rfl (if_congr List.contains_iff_mem rfl ?_)
  dsimp only
  split <;> rfl

theorem completeCheck_discarded (hhead : s.spell.checks = c :: rest) (h : c.discarded = true) :
    completeCheck s = { s with spell := { s.spell with checks := rest } } := by simp [completeCheck, hhead, h]

theorem completeCheck_wordCheck {port : Port} {tag : Byte} (hhead : s.spell.checks = c :: rest) (h : c.discarded = false)
    (hkind : c.kind = .wordCheck port tag) :
    completeCheck s = report { s with spell := { s.spell with checks := rest } } port tag
      (.checkResult c.letters (s.spell.decision c.letters).1 (s.spell.decision c.letters).2) := by
  simp [completeCheck, hhead, h, hkind]

theorem completeCheck_lineWord {attached : Bool} {start v : Nat} {port : Port} (hhead : s.spell.checks = c :: rest)
    (h : c.discarded = false) (hkind : c.kind = .lineWord attached start v port) :
    completeCheck s = spellAlert c.letters start v port (s.spell.decision c.letters).1
      (if attached then applyResult c.id (s.spell.decision c.letters).1 { s with spell := { s.spell with checks := rest } }
      else { s with spell := { s.spell with checks := rest } }) := by
  simp [completeCheck, hhead, h, hkind]

end Sys2Proof.Machine

namespace Sys2Proof.Proofs
open Sys2Proof.Machine

/-- Settles O34, by the kind of the check at the head. -/
theorem checkCompletes : Obligations.CheckCompletes := by
  unfold Obligations.CheckCompletes
  intro s hwaiting
  refine ⟨fun hempty => leaves_completeCheck hwaiting (by rw [completeCheck, hempty]), fun c rest hhead => ?_⟩
  intro u i inSignature answer
  have decided : s.spell.decision c.letters = answer := decision_eq s.spell c.letters
  refine ⟨fun h => leaves_completeCheck hwaiting (completeCheck_discarded hhead h), fun port tag h hkind => ?_,
    fun attached start v port h hkind => ?_⟩
  · have completed := completeCheck_wordCheck hhead h hkind
    rw [decided] at completed
    exact leaves_completeCheck hwaiting completed
  · intro words marked body alerted
    have completed := completeCheck_lineWord hhead h hkind
    rw [decided] at completed
    have applied : (if attached then applyResult c.id answer.1 u else u) = marked := by
      unfold marked words
      cases attached with
      | false => rfl
      | true => cases answer.1 <;> rfl
    have mode : marked.spell.mode = s.spell.mode ∧ marked.spell.interfaceReports = s.spell.interfaceReports := by
      unfold marked
      split <;> exact ⟨rfl, rfl⟩
    refine leaves_completeCheck hwaiting (completed.trans ?_)
    rw [applied, spellAlert, mode.1, mode.2]
    rfl

end Sys2Proof.Proofs
end

-- ==== Sys2Proof/Proofs/Justification ====
section
/-! SUPPORT. A justified line (R53, R58, R59): what becomes of each entry, and the sum of the widths. -/

namespace Sys2Proof.Machine

/-- R58, R59: what an entry x of the span becomes at a position, with i gaps passed; seen: a CHAR stands before it; before: the last one
is underlined; rest: what follows it in the span. -/
structure LaidOut (counter e g pos i : Nat) (seen before : Bool) (x : Entry) (rest : List Entry) (y : PrintEntry) : Prop where
  kind : y.kind = x.kind
  code : y.code = x.code
  bold : y.bold = x.bold
  group : y.group = x.group
  unprintable : y.unprintable = (x.state == .unprintable)
  pos : y.pos = pos
  width : y.width = x.width + if isGap seen x rest then gapExtra counter e g i else 0
  underline : y.underline = true ↔
    x.underline = true ∨ isGap seen x rest = true ∧ before = true ∧ ((rest.find? Entry.isChar).any fun c => c.underline) = true

section
variable (counter e g : Nat)

/-- R58: the first entry of what is left of the span is laid out, and the rest behind it. -/
theorem layOut_cons (p i : Nat) (seen before : Bool) (x : Entry) (rest : List Entry) :
    ∃ y, LaidOut counter e g p i seen before x rest y ∧
      layOut counter e g p i seen before (x :: rest) = y :: layOut counter e g (p + y.width)
        (if isGap seen x rest then i + 1 else i) (seen || x.isChar) (if x.isChar then x.underline else before) rest := by
  cases hgap : isGap seen x rest with
  | true =>
    obtain ⟨⟨hspace, -⟩, -⟩ : (x.kind = .space ∧ seen = true) ∧ rest.any Entry.isChar = true := by simpa [isGap] using hgap
    have notChar : x.isChar = false := by simp [Entry.isChar, hspace]
    have laid : layOut counter e g p i seen before (x :: rest) =
        (if isBridged before x rest then { x.released p (x.width + gapExtra counter e g i) with underline := true }
          else x.released p (x.width + gapExtra counter e g i)) ::
          layOut counter e g (p + (x.width + gapExtra counter e g i)) (i + 1) seen before rest := by
      rw [layOut, if_pos hgap]
    rw [laid, notChar, Bool.or_false]
    cases hbridged : isBridged before x rest with
    | true =>
      have sides : (x.underline = false ∧ before = true) ∧ ((rest.find? Entry.isChar).any fun c => c.underline) = true := by
        simpa [isBridged] using hbridged
      exact ⟨{ x.released p (x.width + gapExtra counter e g i) with underline := true },
        ⟨rfl, rfl, rfl, rfl, rfl, rfl, by rw [hgap]; rfl, by simp [hgap, sides]⟩, rfl⟩
    | false =>
      have plain : x.underline = false → before = true → ((rest.find? Entry.isChar).any fun c => c.underline) = false := by
        intro hx hbefore
        simpa [isBridged, hx, hbefore] using hbridged
      refine ⟨x.released p (x.width + gapExtra counter e g i), ⟨rfl, rfl, rfl, rfl, rfl, rfl, by rw [hgap]; rfl, ?_⟩, rfl⟩
      change x.underline = true ↔ _
      cases hx : x.underline with
      | true => simp
      | false =>
        simp only [hgap, Bool.false_eq_true, false_or, true_and, false_iff, not_and]
        exact fun hbefore => by simp [plain hx hbefore]
  | false =>
    have stays : LaidOut counter e g p i seen before x rest (x.released p x.width) := by
      refine ⟨rfl, rfl, rfl, rfl, rfl, rfl, by rw [hgap]; rfl, ?_⟩
      change x.underline = true ↔ _
      simp [hgap]
    refine ⟨_, stays, ?_⟩
    rw [layOut, if_neg (by simp [hgap])]
    cases hchar : x.isChar with
    | true => rw [Bool.or_true]; rfl
    | false => rw [Bool.or_false]; rfl

theorem layOut_length : ∀ (rest : List Entry) (p i : Nat) (seen before : Bool),
    (layOut counter e g p i seen before rest).length = rest.length := by
  intro rest
  induction rest with
  | nil => intros; rfl
  | cons x rest ih =>
    intro p i seen before
    obtain ⟨y, -, hy⟩ := layOut_cons counter e g p i seen before x rest
    rw [hy, List.length_cons, List.length_cons, ih]

/-- R58: with no CHAR left there is no gap left, so how many were passed does not matter. -/
theorem layOut_of_noChar : ∀ (rest : List Entry) (p i j : Nat) (seen before : Bool), rest.any Entry.isChar = false →
    layOut counter e g p i seen before rest = layOut counter e g p j seen before rest := by
  intro rest
  induction rest with
  | nil => intros; rfl
  | cons x rest ih =>
    intro p i j seen before hnone
    rw [List.any_cons, Bool.or_eq_false_iff] at hnone
    have noGap : isGap seen x rest = false := by simp [isGap, hnone.2]
    simp only [layOut, noGap, hnone.1, Bool.false_eq_true, if_false]
    rw [ih _ i j _ _ hnone.2]

end

/-! ### The same, read from the entries before -/

/-- R58: how many gaps stand before an entry that has a CHAR behind it: the SPACE entries after the first CHAR. -/
def spacesPassed (before : List Entry) : Nat := (before.dropWhile fun c => c.kind != .char).countP fun c => c.kind == .space

/-- R59: is the nearest CHAR before underlined? -/
def lastUnderlined (before : List Entry) : Bool := (before.reverse.find? Entry.isChar).any fun c => c.underline

theorem dropWhile_eq_nil_of_noChar {before : List Entry} (h : before.any Entry.isChar = false) :
    before.dropWhile (fun c => c.kind != .char) = [] := by
  rw [List.dropWhile_eq_nil_iff]
  intro c hc
  have := List.any_eq_false.1 h c hc
  simpa [Entry.isChar] using this

theorem spacesPassed_snoc (before : List Entry) (x : Entry) :
    spacesPassed (before ++ [x]) =
      spacesPassed before + if x.kind = .space ∧ before.any Entry.isChar = true then 1 else 0 := by
  unfold spacesPassed
  cases hseen : before.any Entry.isChar with
  | false =>
    have none := dropWhile_eq_nil_of_noChar hseen
    rw [List.dropWhile_append, none]
    cases hx : x.kind <;> simp [hx]
  | true =>
    have some : before.dropWhile (fun c => c.kind != .char) ≠ [] := by
      rw [Ne, List.dropWhile_eq_nil_iff]
      obtain ⟨c, hc, hchar⟩ := List.any_eq_true.1 hseen
      exact fun h => by simpa [beq_iff_eq.1 hchar] using h c hc
    rw [List.dropWhile_append, if_neg (by simpa using some), List.countP_append]
    cases hx : x.kind <;> simp [hx]

theorem lastUnderlined_snoc (before : List Entry) (x : Entry) :
    lastUnderlined (before ++ [x]) = if x.isChar then x.underline else lastUnderlined before := by
  unfold lastUnderlined
  rw [List.reverse_append]
  cases hx : x.isChar <;> simp [hx]

section
variable (counter e g : Nat)

/-- R58: the entries of the span are laid out one by one, each by what stands before and behind it. -/
theorem layOut_step (before : List Entry) (x : Entry) (rest : List Entry) (p : Nat) :
    ∃ y, LaidOut counter e g p (spacesPassed before) (before.any Entry.isChar) (lastUnderlined before) x rest y ∧
      layOut counter e g p (spacesPassed before) (before.any Entry.isChar) (lastUnderlined before) (x :: rest) =
        y :: layOut counter e g (p + y.width) (spacesPassed (before ++ [x])) ((before ++ [x]).any Entry.isChar)
          (lastUnderlined (before ++ [x])) rest := by
  obtain ⟨y, hlaid, hy⟩ := layOut_cons counter e g p (spacesPassed before) (before.any Entry.isChar) (lastUnderlined before) x rest
  refine ⟨y, hlaid, hy.trans (congrArg (y :: ·) ?_)⟩
  rw [spacesPassed_snoc, lastUnderlined_snoc, List.any_append, List.any_cons, List.any_nil, Bool.or_false]
  cases hrest : rest.any Entry.isChar with
  | false => exact layOut_of_noChar counter e g rest _ _ _ _ _ hrest
  | true =>
    have counted : (if isGap (before.any Entry.isChar) x rest = true then spacesPassed before + 1 else spacesPassed before) =
        spacesPassed before + if x.kind = .space ∧ before.any Entry.isChar = true then 1 else 0 := by
      have gap_iff : isGap (before.any Entry.isChar) x rest = true ↔ x.kind = .space ∧ before.any Entry.isChar = true := by
        simp [isGap, hrest]
      by_cases h : x.kind = .space ∧ before.any Entry.isChar = true
      · rw [if_pos (gap_iff.2 h), if_pos h]
      · rw [if_neg (mt gap_iff.1 h), if_neg h, Nat.add_zero]
    rw [counted]

theorem layOut_getElem? : ∀ (rest before : List Entry) (p k : Nat) (x : Entry) (y : PrintEntry), rest[k]? = some x →
    (layOut counter e g p (spacesPassed before) (before.any Entry.isChar) (lastUnderlined before) rest)[k]? = some y →
    LaidOut counter e g
      (p + (((layOut counter e g p (spacesPassed before) (before.any Entry.isChar) (lastUnderlined before) rest).take k).map
        PrintEntry.width).sum)
      (spacesPassed (before ++ rest.take k)) ((before ++ rest.take k).any Entry.isChar) (lastUnderlined (before ++ rest.take k)) x
      (rest.drop (k + 1)) y := by
  intro rest
  induction rest with
  | nil => exact fun _ _ _ _ _ hx => absurd hx (by simp)
  | cons x0 rest ih =>
    intro before p k x y hx hy
    obtain ⟨y0, hlaid, hcons⟩ := layOut_step counter e g before x0 rest p
    rw [hcons] at hy ⊢
    cases k with
    | zero =>
      obtain rfl : x0 = x := by simpa using hx
      obtain rfl : y0 = y := by simpa using hy
      simpa using hlaid
    | succ k =>
      rw [List.getElem?_cons_succ] at hx hy
      have later := ih (before ++ [x0]) (p + y0.width) k x y hx hy
      simpa [Nat.add_assoc] using later

/-! ### The sum of the widths -/

/-- R58: each entry begins where the one before it ends. -/
theorem layOut_getLast? : ∀ (rest : List Entry) (p i : Nat) (seen before : Bool) (y : PrintEntry),
    (layOut counter e g p i seen before rest).getLast? = some y →
      y.pos + y.width = p + ((layOut counter e g p i seen before rest).map PrintEntry.width).sum := by
  intro rest
  induction rest with
  | nil => exact fun _ _ _ _ _ h => absurd h (by simp [layOut])
  | cons x rest ih =>
    intro p i seen before y hy
    obtain ⟨y0, hlaid, hcons⟩ := layOut_cons counter e g p i seen before x rest
    rw [hcons] at hy ⊢
    rw [List.map_cons, List.sum_cons, ← Nat.add_assoc]
    cases rest with
    | nil =>
      obtain rfl : y0 = y := by simpa [layOut] using hy
      rw [hlaid.pos]
      rfl
    | cons x1 rest =>
      refine ih _ _ _ _ y ?_
      obtain ⟨y1, -, hcons1⟩ := layOut_cons counter e g (p + y0.width) (if isGap seen x (x1 :: rest) then i + 1 else i)
        (seen || x.isChar) (if x.isChar then x.underline else before) x1 rest
      rw [hcons1, List.getLast?_cons_cons] at hy
      rw [hcons1]
      exact hy

/-- R53: the gaps of what is left of a span. -/
def gapsLeft : Bool → List Entry → Nat
  | _, [] => 0
  | seen, x :: rest => (if isGap seen x rest then 1 else 0) + gapsLeft (seen || x.isChar) rest

/-- R58: the widths after justification: those before it, and what the gaps receive. -/
theorem layOut_widths : ∀ (rest : List Entry) (p i : Nat) (seen before : Bool),
    ((layOut counter e g p i seen before rest).map PrintEntry.width).sum =
      (rest.map Entry.width).sum + ((List.range (gapsLeft seen rest)).map fun j => gapExtra counter e g (i + j)).sum := by
  intro rest
  induction rest with
  | nil => intros; rfl
  | cons x rest ih =>
    intro p i seen before
    obtain ⟨y, hlaid, hcons⟩ := layOut_cons counter e g p i seen before x rest
    rw [hcons, List.map_cons, List.sum_cons, ih, hlaid.width, List.map_cons, List.sum_cons, gapsLeft]
    cases isGap seen x rest with
    | true =>
      rw [if_pos rfl, if_pos rfl, if_pos rfl, Nat.add_comm 1, List.range_succ_eq_map, List.map_cons, List.sum_cons, List.map_map]
      have shifted : (fun j => gapExtra counter e g (i + 1 + j)) = (fun j => gapExtra counter e g (i + j)) ∘ Nat.succ := by
        funext j
        exact congrArg _ (by omega)
      rw [shifted]
      simp only [Nat.add_zero]
      omega
    | false =>
      simp only [Bool.false_eq_true, if_false, Nat.zero_add, Nat.add_zero]
      omega

end

/-! ### How many gaps there are, and what they receive -/

theorem gapsLeft_of_noChar : ∀ (rest : List Entry) (seen : Bool), rest.any Entry.isChar = false → gapsLeft seen rest = 0 := by
  intro rest
  induction rest with
  | nil => intros; rfl
  | cons x rest ih =>
    intro seen hnone
    rw [List.any_cons, Bool.or_eq_false_iff] at hnone
    rw [gapsLeft, ih _ hnone.2]
    simp [isGap, hnone.2]

/-- R53: after the first CHAR, the gaps are the SPACE entries up to the last CHAR. -/
theorem gapsLeft_seen : ∀ rest : List Entry,
    gapsLeft true rest = (rest.reverse.dropWhile fun e => !e.isChar).reverse.countP fun e => e.kind == .space := by
  intro rest
  induction rest with
  | nil => rfl
  | cons x rest ih =>
    rw [gapsLeft, Bool.true_or, ih, List.reverse_cons, List.dropWhile_append, List.countP_reverse, List.countP_reverse]
    cases hrest : rest.any Entry.isChar with
    | true =>
      have some : rest.reverse.dropWhile (fun e => !e.isChar) ≠ [] := by
        rw [Ne, List.dropWhile_eq_nil_iff]
        obtain ⟨c, hc, hchar⟩ := List.any_eq_true.1 hrest
        exact fun h => by simpa [hchar] using h c (List.mem_reverse.2 hc)
      have kept : ¬(rest.reverse.dropWhile fun e => !e.isChar).isEmpty = true := by simpa using some
      rw [if_neg kept, List.countP_append, isGap, hrest]
      cases hx : x.kind <;> simp [hx, Nat.add_comm]
    | false =>
      have none : rest.reverse.dropWhile (fun e => !e.isChar) = [] := by
        rw [List.dropWhile_eq_nil_iff]
        exact fun c hc => by simpa using List.any_eq_false.1 hrest c (List.mem_reverse.1 hc)
      rw [none, isGap, hrest]
      cases hx : x.kind <;> simp [hx, Entry.isChar]

theorem gapsLeft_eq_gapCount (span : List Entry) : gapsLeft false span = gapCount span := by
  have first : gapsLeft false span = gapsLeft true (span.dropWhile fun e => !e.isChar) := by
    induction span with
    | nil => rfl
    | cons x rest ih =>
      cases hchar : x.isChar with
      | true =>
        rw [List.dropWhile_cons_of_neg (by simp [hchar]), gapsLeft, gapsLeft, hchar]
        obtain hkind : x.kind = .char := by simpa [Entry.isChar] using hchar
        simp [isGap, hkind]
      | false =>
        rw [List.dropWhile_cons_of_pos (by simp [hchar]), gapsLeft, hchar, ← ih]
        simp [isGap]
  rw [first, gapsLeft_seen]
  rfl

theorem sum_range_lt (r : Nat) : ∀ n, ((List.range n).map fun j => if j < r then 1 else 0).sum = min n r := by
  intro n
  induction n with
  | zero => simp
  | succ n ih =>
    rw [List.range_succ, List.map_append, List.sum_append, ih, List.map_singleton, List.sum_singleton]
    split <;> omega

theorem sum_range_ge (r : Nat) : ∀ n, ((List.range n).map fun j => if r ≤ j then 1 else 0).sum = n - r := by
  intro n
  induction n with
  | zero => simp
  | succ n ih =>
    rw [List.range_succ, List.map_append, List.sum_append, ih, List.map_singleton, List.sum_singleton]
    split <;> omega

/-- R58: every gap receives the quotient, and some of them one unit more. -/
theorem gapExtra_eq (counter e g i : Nat) :
    gapExtra counter e g i = e / g + if (if counter % 2 = 0 then i < e % g else g - e % g ≤ i) then 1 else 0 := by
  unfold gapExtra
  by_cases h : counter % 2 = 0
  · simp only [h, if_true]
    split <;> rfl
  · simp only [h, if_false]
    split <;> rfl

/-- R58: the gaps together receive all the spare units. -/
theorem sum_gapExtra (counter e : Nat) {g : Nat} (hg : 0 < g) :
    ((List.range g).map fun j => gapExtra counter e g (0 + j)).sum = e := by
  have less := Nat.mod_lt e hg
  have whole := Nat.div_add_mod e g
  have split : ((List.range g).map fun j => gapExtra counter e g (0 + j)).sum = g * (e / g) +
      ((List.range g).map fun j => if (if counter % 2 = 0 then j < e % g else g - e % g ≤ j) then 1 else 0).sum := by
    simp only [gapExtra_eq, Nat.zero_add, List.sum_map_add, List.map_const', List.sum_replicate, List.length_range, smul_eq_mul]
  have odd : ((List.range g).map fun j => if (if counter % 2 = 0 then j < e % g else g - e % g ≤ j) then 1 else 0).sum = e % g := by
    by_cases h : counter % 2 = 0
    · simp only [h, if_true]
      rw [sum_range_lt, Nat.min_eq_right less.le]
    · simp only [h, if_false]
      rw [sum_range_ge]
      omega
  rw [split, odd, whole]

/-- R53: a continuous span ends where its start and its widths put it. -/
theorem continuousFrom_finish : ∀ (span : List Entry) (p : Nat) (last : Entry), continuousFrom p span = true →
    span.getLast? = some last → last.pos + last.width = p + (span.map Entry.width).sum := by
  intro span
  induction span with
  | nil => exact fun _ _ _ h => absurd h (by simp)
  | cons x rest ih =>
    intro p last hcontinuous hlast
    rw [continuousFrom, Bool.and_eq_true, beq_iff_eq] at hcontinuous
    obtain ⟨hpos, hrest⟩ := hcontinuous
    rw [List.map_cons, List.sum_cons, ← Nat.add_assoc]
    cases rest with
    | nil =>
      obtain rfl : x = last := by simpa using hlast
      rw [hpos]
      rfl
    | cons x1 rest =>
      rw [List.getLast?_cons_cons] at hlast
      rw [ih _ last hrest hlast, Entry.finish, hpos]

end Sys2Proof.Machine

namespace Sys2Proof.Proofs
open Sys2Proof.Machine

/-- Settles O43: what each entry becomes by induction on the span, and the last end by the sum of the widths. -/
theorem justifiedLineEndsAtMargin : Obligations.JustifiedLineEndsAtMargin := by
  unfold Obligations.JustifiedLineEndsAtMargin
  intro counter rm start span last hcontinuous hlast hends hgaps e g out
  refine ⟨layOut_length .., fun y hy => ?_, fun k x y hx hy => ?_⟩
  · have finish := continuousFrom_finish span start last hcontinuous hlast
    calc y.pos + y.width = start + (out.map PrintEntry.width).sum := layOut_getLast? counter e g span start 0 false false y hy
      _ = start + ((span.map Entry.width).sum + e) := by
        rw [show out = layOut counter e g start 0 false false span from rfl, layOut_widths, gapsLeft_eq_gapCount,
          sum_gapExtra counter e hgaps]
      _ = rm := by omega
  · intro before behind gap i odd underlined
    have laid := layOut_getElem? counter e g span [] start k x y hx hy
    rw [List.nil_append] at laid
    have gap_iff : isGap (before.any Entry.isChar) x behind = true ↔ gap := by
      simp [isGap, gap, Entry.isChar, and_assoc]
    have extra : gapExtra counter e g i = e / g + if odd then 1 else 0 := by
      rw [gapExtra_eq]
    refine ⟨laid.kind, laid.code, laid.bold, laid.group, laid.unprintable, laid.pos, fun hgap => ?_, fun hgap => ?_, ?_⟩
    · rw [laid.width, if_pos (gap_iff.2 hgap), Nat.add_assoc]
      exact congrArg _ extra
    · rw [laid.width, if_neg (mt gap_iff.1 hgap), Nat.add_zero]
    · rw [laid.underline, gap_iff]
      simp only [lastUnderlined, Option.any_eq_true]
      rfl

end Sys2Proof.Proofs
end

-- ==== Sys2Proof/Proofs/Placements ====
section
/-! SUPPORT. The composer's own placements: the print line's and the correction in progress's (R61 to R63, R121 to R123). -/

namespace Sys2Proof.Machine

variable {s u : State}

/-- The mechanism is busy, and nothing waits for what the placement frees. -/
theorem placementEvent_over {f : State → State} (hu : f s = u) (hbusy : u.Engaged) (hnobody : u.NobodyWaits) :
    placementEvent f s = u := by
  unfold placementEvent
  simp only [hu]
  exact settle_quiet hbusy hnobody _

/-! ### The print line (R61 to R63) -/

/-- R61: the strikes of a print line entry. -/
def PrintLine.strikesOf (l : PrintLine) (d : Option Descriptor) (e : PrintEntry) : List SEntry :=
  printEntries (buildPrintEntry d e) l.vpos (e.group.getD 0) (composedPitch d) l.port

theorem strikesOf_length (l : PrintLine) (d : Option Descriptor) (e : PrintEntry) :
    (l.strikesOf d e).length = (buildPrintEntry d e).strikes.length := printEntries_length ..

/-- R61: an entry that makes no report is passed with its strikes placed. -/
theorem feedOne_silent {l : PrintLine} {e : PrintEntry} (hprintable : e.unprintable = false)
    (hkept : (buildPrintEntry s.descriptor e).lost = false) :
    feedOne l e s = ({ l with cursor := l.cursor + 1 }, s.queued (l.strikesOf s.descriptor e)) := by
  simp only [feedOne, feedReports, hprintable, hkept, Bool.false_and, Bool.or_false]
  rfl

/-- R62: what fits is placed whole and in order, and the first group that does not fit stops the feeding. -/
theorem feedEntries_fits (d : Option Descriptor) : ∀ (es : List PrintEntry) (l : PrintLine) (s : State), s.descriptor = d →
    s.seq.queue.length ≤ 64 → (∀ e ∈ es, e.unprintable = false ∧ (buildPrintEntry d e).lost = false) →
    ∃ k, feedEntries es l s =
        ({ l with cursor := l.cursor + k }, s.queued ((es.take k).flatMap (l.strikesOf d))) ∧
      (s.seq.queue ++ (es.take k).flatMap (l.strikesOf d)).length ≤ 64 ∧ k ≤ es.length ∧
      ∀ e, es[k]? = some e → 64 < (s.seq.queue ++ (es.take k).flatMap (l.strikesOf d)).length + (l.strikesOf d e).length := by
  intro es
  induction es with
  | nil => exact fun l s hd hqueue hsilent => ⟨0, by simp [feedEntries, State.queued], by simpa using hqueue, le_refl _, by simp⟩
  | cons e rest ih =>
    intro l s hd hqueue hsilent
    by_cases hfits : freePlaces s < (buildPrintEntry d e).strikes.length
    · refine ⟨0, ?_, by simpa using hqueue, Nat.zero_le _, fun e' he' => ?_⟩
      · rw [feedEntries, hd, if_pos hfits]
        simp [State.queued]
      · obtain rfl : e = e' := by simpa using he'
        rw [strikesOf_length]
        simp only [freePlaces, Config.strikePlaces] at hfits
        simp only [List.take_zero, List.flatMap_nil, List.append_nil]
        omega
    · obtain ⟨hprintable, hkept⟩ := hsilent e List.mem_cons_self
      have room : (s.queued (l.strikesOf d e)).seq.queue.length ≤ 64 := by
        simp only [freePlaces, Config.strikePlaces] at hfits
        rw [State.queued, List.length_append, strikesOf_length]
        omega
      obtain ⟨k, hfed, hbound, hk, hnext⟩ := ih { l with cursor := l.cursor + 1 } (s.queued (l.strikesOf d e)) hd room
        fun x hx => hsilent x (List.mem_cons_of_mem _ hx)
      have assoc : (s.queued (l.strikesOf d e)).seq.queue ++ (rest.take k).flatMap (l.strikesOf d) =
          s.seq.queue ++ ((e :: rest).take (k + 1)).flatMap (l.strikesOf d) := by
        rw [List.take_succ_cons, List.flatMap_cons, ← List.append_assoc]
        rfl
      refine ⟨k + 1, ?_, assoc ▸ hbound, Nat.succ_le_succ hk, fun x hx => assoc ▸ hnext x (by simpa using hx)⟩
      rw [feedEntries, hd, if_neg hfits, feedOne_silent hprintable (by rw [hd]; exact hkept), hd]
      refine hfed.trans (Prod.ext ?_ ?_)
      · rw [Nat.add_assoc, Nat.add_comm 1]
      · exact congrArg (fun q => ({ s with seq := { s.seq with queue := q } } : State)) assoc

theorem closePrintLine_closes {l : PrintLine} (h : s.comp.printLine = some l) (hpassed : l.entries.length ≤ l.cursor)
    (hroom : (closingEntries l).length ≤ freePlaces s) :
    closePrintLine s = { s with
      comp := { s.comp with printLine := none }
      seq := { s.seq with queue := s.seq.queue ++ closingEntries l } } := by
  rw [closePrintLine, h]
  exact if_pos ⟨hpassed, hroom⟩

theorem closePrintLine_waits {l : PrintLine} (h : s.comp.printLine = some l)
    (hnot : ¬(l.entries.length ≤ l.cursor ∧ (closingEntries l).length ≤ freePlaces s)) : closePrintLine s = s := by
  rw [closePrintLine, h]
  exact if_neg hnot

/-! ### The correction in progress (R121 to R123) -/

/-- R123: the correction's end, with its MARK behind the LIFTs. -/
def State.correctionOver (s : State) (d : Correction) : State :=
  let u := { s with
    comp := { s.comp with correction := none }
    seq := { s.seq with queue := s.seq.queue ++ if d.notify then [.mark d.port d.tag .done] else [] } }
  State.granted
    (if d.shorts = 0 then u else report u d.port d.tag (.partialLift d.vpos d.placed d.shorts (d.leftmostShort.getD 0)))

theorem endCorrection_eq (d : Correction) (s : State) :
    endCorrection d s = State.granted
      (if d.shorts = 0 then { s with comp := { s.comp with correction := none } }
        else report { s with comp := { s.comp with correction := none } } d.port d.tag
          (.partialLift d.vpos d.placed d.shorts (d.leftmostShort.getD 0))) := by
  unfold endCorrection
  rw [decideGrant_eq]
  cases hshorts : d.shorts with
  | zero => rfl
  | succ n => simp

theorem closeCorrection_ends {d : Correction} (h : d.notify = false ∨ 1 ≤ freePlaces s) :
    closeCorrection d s = s.correctionOver d := by
  unfold closeCorrection State.correctionOver
  cases hnotify : d.notify with
  | false =>
    rw [if_neg Bool.false_ne_true, endCorrection_eq]
    simp only [Bool.false_eq_true, if_false, List.append_nil]
  | true =>
    have room : ¬freePlaces s < 1 := by
      rcases h with h | h
      · simp [h] at hnotify
      · omega
    rw [if_pos rfl, if_neg room, endCorrection_eq]
    rfl

theorem closeCorrection_waits {d : Correction} (hnotify : d.notify = true) (hfull : freePlaces s = 0) :
    closeCorrection d s = { s with comp := { s.comp with correction := some d } } := by
  rw [closeCorrection, if_pos hnotify, if_pos (by omega)]

theorem correctionOver_still (d : Correction) (hbusy : s.Engaged) (hline : s.comp.printLine = none)
    (hflush : s.arb.flushPending = false) (htakeover : s.arb.takeover = false) (hhead : s.arb.headWaiting = false) :
    (s.correctionOver d).Engaged ∧ (s.correctionOver d).NobodyWaits := by
  unfold State.correctionOver
  dsimp only
  split
  · exact ⟨hbusy, hline, rfl, hflush, htakeover, hhead⟩
  · cases d.port <;> exact ⟨hbusy, hline, rfl, hflush, htakeover, hhead⟩

theorem correctionWork_closing {c d : Correction} {u : State} (h : s.comp.correction = some c)
    (hplaced : placeTargets c c.remaining s = (d, u)) (hphase : d.phase = .closing) : correctionWork s = closeCorrection d u := by
  simp only [correctionWork, h, hplaced, hphase]

theorem correctionWork_goesOn {c d : Correction} {u : State} (h : s.comp.correction = some c)
    (hplaced : placeTargets c c.remaining s = (d, u)) (hphase : d.phase ≠ .closing) :
    correctionWork s = { u with comp := { u.comp with correction := some d } } := by
  simp only [correctionWork, h, hplaced]

/-- R121: a target whose strike is not in flight, with room for its LIFTs. -/
theorem placeTargets_places {c : Correction} {x : Target} {rest : List Target} (hflight : printInFlight s x.group = false)
    (hroom : (groupRecords s x.group c.vpos).length ≤ freePlaces s) :
    placeTargets c (x :: rest) s =
      placeTargets
        { c with
          placed := c.placed + (groupRecords s x.group c.vpos).length
          shorts := c.shorts + if x.withdrawn = false ∧ isShortTarget s x.group c.vpos x.space = true then 1 else 0
          leftmostShort := if x.withdrawn = false ∧ isShortTarget s x.group c.vpos x.space = true then some x.key else c.leftmostShort }
        rest (s.queued ((groupRecords s x.group c.vpos).reverse.map (liftOf c.port))) := by
  rw [placeTargets, if_neg (by simp [hflight])]
  dsimp only
  rw [if_neg (not_lt.2 hroom)]
  by_cases hshort : x.withdrawn = false ∧ isShortTarget s x.group c.vpos x.space = true
  · have short : (!x.withdrawn && isShortTarget s x.group c.vpos x.space) = true := by simp [hshort]
    rw [if_pos hshort, if_pos hshort, short]
    rfl
  · have whole : (!x.withdrawn && isShortTarget s x.group c.vpos x.space) = false := by
      rw [Bool.and_eq_false_iff, Bool.not_eq_false']
      by_cases hwithdrawn : x.withdrawn = true
      · exact .inl hwithdrawn
      · exact .inr (Bool.eq_false_iff.2 fun h => hshort ⟨Bool.eq_false_iff.2 hwithdrawn, h⟩)
    rw [if_neg hshort, if_neg hshort, whole]
    rfl

end Sys2Proof.Machine

namespace Sys2Proof.Proofs
open Sys2Proof.Machine

theorem feedingPlacesWhatFits : Sys2Proof.Claims.FeedingPlacesWhatFits := by
  intro s l hline hbusy hqueue hsilent strikes
  obtain ⟨k, hfed, hbound, hk, hnext⟩ := feedEntries_fits s.descriptor (l.entries.drop l.cursor) l s rfl hqueue
    fun e he => hsilent e (List.drop_subset _ _ he)
  let u : State := { s with
    comp := { s.comp with printLine := some { l with cursor := l.cursor + k } }
    seq := { s.seq with queue := s.seq.queue ++ ((l.entries.drop l.cursor).take k).flatMap strikes } }
  have fed : feedPrintLine s = u := by
    rw [feedPrintLine, hline]
    dsimp only
    rw [hfed]
    rfl
  have event : placementEvent feedPrintLine s = u :=
    placementEvent_busy fed hbusy (correctionEnded_of_same rfl) (Bool.and_false _)
  refine ⟨finish s u, k, ?_, leaves_finish s u, ?_, hk, fun e he => ?_⟩
  · change done s (placementEvent feedPrintLine s) = _
    rw [event]
    rfl
  · rw [finish_seq]
    exact hbound
  · rw [finish_seq]
    exact hnext e he

theorem closingPlacementsMade : Sys2Proof.Claims.ClosingPlacementsMade := by
  intro s l hline hbusy hcorrection hflush htakeover hhead closing
  have row {u : State} (h : placementEvent closePrintLine s = u) : ∃ t, exec .closingPlacements s = .next t ∧ Leaves s t u := by
    change ∃ t, done s (placementEvent closePrintLine s) = .next t ∧ _
    rw [h]
    exact leaves_done s u
  refine ⟨fun hpassed hroom => ?_, fun hnot => ?_⟩
  · have closed := closePrintLine_closes hline hpassed (show closing.length ≤ 64 - s.seq.queue.length by omega)
    exact row (placementEvent_over closed hbusy ⟨rfl, hcorrection, hflush, htakeover, hhead⟩)
  · have some : (closingEntries l).length = closing.length ∧ 3 ≤ closing.length := ⟨rfl, by simp [closing]⟩
    have waits : ¬(l.entries.length ≤ l.cursor ∧ (closingEntries l).length ≤ freePlaces s) := by
      simp only [freePlaces, Config.strikePlaces]
      omega
    have kept := closePrintLine_waits hline waits
    exact row (placementEvent_busy kept hbusy (correctionEnded_of_same rfl) (by rw [hline]; rfl))

/-- Settles O35: feeding by induction on the entries behind the cursor, closing by its two conditions. -/
theorem printLinePlaces : Obligations.PrintLinePlaces := ⟨feedingPlacesWhatFits, closingPlacementsMade⟩

/-- Settles O36, by the phase that the correction comes to. -/
theorem liftsPlaced : Obligations.LiftsPlaced := by
  unfold Obligations.LiftsPlaced
  intro s c hcorrection hbusy hline hflush htakeover hhead hqueue room after ended
  -- the row, when the correction goes on and when it is over
  have goesOn {d : Correction} {lifts : List SEntry} (h : correctionWork s = after d lifts) :
      ∃ t, exec .liftPlacement s = .next t ∧ Leaves s t (after d lifts) := by
    have event : placementEvent correctionWork s = after d lifts :=
      placementEvent_busy h hbusy (by rw [correctionEnded, Bool.and_eq_false_iff]; exact .inr rfl) (by rw [hline]; rfl)
    change ∃ t, done s (placementEvent correctionWork s) = .next t ∧ _
    rw [event]
    exact leaves_done s _
  have isOver {d : Correction} {u : State} (h : correctionWork s = u.correctionOver d)
      (hu : u.seq.fault = s.seq.fault ∧ u.seq.motion = s.seq.motion ∧ u.seq.inflight = s.seq.inflight)
      (harb : u.arb = s.arb) (hprint : u.comp.printLine = none) :
      ∃ t, exec .liftPlacement s = .next t ∧ Leaves s t (u.correctionOver d) := by
    obtain ⟨hfault, hmotion, hinflight⟩ := hu
    obtain ⟨busy, nobody⟩ := correctionOver_still (s := u) d (engaged_seq s u hbusy hfault hmotion hinflight) hprint
      (harb ▸ hflush) (harb ▸ htakeover) (harb ▸ hhead)
    change ∃ t, done s (placementEvent correctionWork s) = .next t ∧ _
    rw [placementEvent_over h busy nobody]
    exact leaves_done s _
  have over_eq (d : Correction) (lifts : List SEntry) : (s.queued lifts).correctionOver d = ended d lifts := rfl
  have queued_nil : s.queued [] = s := by rw [State.queued, List.append_nil]
  have after_nil (d : Correction) : { s with comp := { s.comp with correction := some d } } = after d [] := by
    simp only [after, List.append_nil]
  refine ⟨fun hnone => ?_, fun x hone => ?_⟩
  · intro d
    have placed : placeTargets c c.remaining s = (d, s) := by rw [hnone, placeTargets, ← hnone]
    have work := correctionWork_closing hcorrection placed rfl
    refine ⟨fun hroom => ?_, fun hnotify hfull => ?_⟩
    · rw [← over_eq, queued_nil]
      exact isOver (work.trans (closeCorrection_ends hroom)) ⟨rfl, rfl, rfl⟩ rfl hline
    · exact goesOn (work.trans ((closeCorrection_waits (s := s) (d := d) hnotify hfull).trans (after_nil d)))
  · intro records lifts short d
    have lifts_length : lifts.length = records.length := by rw [List.length_map, List.length_reverse]
    have placed (hflight : printInFlight s x.group = false) (hroom : records.length ≤ room) :
        correctionWork s = closeCorrection d (s.queued lifts) := by
      have one := placeTargets_places (c := c) (rest := []) hflight hroom
      rw [← hone] at one
      exact correctionWork_closing hcorrection one rfl
    have room_after (hroom : records.length ≤ room) : freePlaces (s.queued lifts) = room - records.length := by
      simp only [freePlaces, State.queued, List.length_append, lifts_length, Config.strikePlaces]
      omega
    refine ⟨fun hflight => ?_, fun hflight hfull => ?_, fun hflight hroom => ?_, fun hflight hnotify hfull => ?_⟩
    · have waits : placeTargets c c.remaining s = ({ c with phase := .waitingOnStrike }, s) := by
        rw [hone, placeTargets, if_pos hflight, ← hone]
      exact goesOn ((correctionWork_goesOn hcorrection waits nofun).trans (after_nil _))
    · have waits : placeTargets c c.remaining s = ({ c with phase := .placing }, s) := by
        rw [hone, placeTargets, if_neg (by simp [hflight])]
        dsimp only
        rw [if_pos (show freePlaces s < (groupRecords s x.group c.vpos).length from hfull), ← hone]
      exact goesOn ((correctionWork_goesOn hcorrection waits nofun).trans (after_nil _))
    · have fits : records.length ≤ room := by omega
      have mark : d.notify = false ∨ 1 ≤ freePlaces (s.queued lifts) := by
        rw [room_after fits]
        by_cases hnotify : c.notify = true
        · rw [if_pos hnotify] at hroom
          exact .inr (by omega)
        · exact .inl (Bool.eq_false_of_not_eq_true hnotify)
      rw [← over_eq]
      exact isOver ((placed hflight fits).trans (closeCorrection_ends mark)) ⟨rfl, rfl, rfl⟩ rfl hline
    · have fits : records.length ≤ room := hfull.le
      have full : freePlaces (s.queued lifts) = 0 := by rw [room_after fits]; omega
      exact goesOn ((placed hflight fits).trans (closeCorrection_waits hnotify full))

end Sys2Proof.Proofs
end

-- ==== Sys2Proof/Proofs/Corrections ====
section
/-! SUPPORT. The rows of the corrections: refused, waiting, or taken with held or paper targets (R113 to R123). -/

namespace Sys2Proof.Machine

variable {s u : State} {p : Port} {it : QItem} {kind : CorrectionKind} {c : Candidate} {rest : List Candidate}

/-- The command of a correction. -/
def CorrectionKind.cmd : CorrectionKind → QCmd
  | .correct => .correct
  | .wordCorrect => .wordCorrect
  | .lineCorrect => .lineCorrect

/-- The row of a correction. -/
def CorrectionKind.row : CorrectionKind → Instr
  | .correct => .correct
  | .wordCorrect => .wordCorrect
  | .lineCorrect => .lineCorrect

theorem exec_correction (h : it.cmd = kind.cmd) :
    ∃ mine, exec kind.row s = .next (takeRow mine s) ∧ mine it.cmd = true ∧ tryCmd s p it = tryCorrection kind s p it ∧
      echoOf it.cmd (impliesReturn s p) = none := by
  obtain ⟨cmd, tag, notify⟩ := it
  obtain rfl : cmd = kind.cmd := h
  cases kind with
  | correct => exact ⟨isCorrect, rfl, rfl, rfl, rfl⟩
  | wordCorrect => exact ⟨isWordCorrect, rfl, rfl, rfl, rfl⟩
  | lineCorrect => exact ⟨isLineCorrect, rfl, rfl, rfl, rfl⟩

/-! ### The tests of a try (R113, R118) -/

theorem tryCorrection_noTarget (h : chooseTargets kind s (targetLookup s) = []) :
    tryCorrection kind s p it = .refuse s .notRemembered (.line s.comp.vpos s.comp.printPoint) := by
  simp only [tryCorrection, h]

theorem tryCorrection_feeding
    (hpaper : ((chooseTargets kind s (targetLookup s)).filter fun c => !c.held) ≠ []) (hline : s.comp.printLine ≠ none) :
    tryCorrection kind s p it = .wait s := by
  have feeding : s.comp.printLine.isSome := Option.isSome_iff_ne_none.2 hline
  unfold tryCorrection
  cases h : chooseTargets kind s (targetLookup s) with
  | nil => exact absurd (by rw [h]; rfl) hpaper
  | cons c rest =>
    rw [h] at hpaper
    exact if_pos ⟨hpaper, feeding⟩

/-- Past the wait for the print line. -/
theorem tryCorrection_judged (h : chooseTargets kind s (targetLookup s) = c :: rest)
    (hfree : ((c :: rest).filter fun c => !c.held) = [] ∨ s.comp.printLine = none) :
    tryCorrection kind s p it =
      if ((c :: rest).all fun x => !x.held && isEmptyTarget s x.group s.comp.vpos) = true then
        .refuse s .notRemembered (.line s.comp.vpos c.key)
      else if correctionRoom s ((c :: rest).filter fun c => !c.held) <
          correctionNeed s ((c :: rest).filter fun c => !c.held) it.notify then .wait s
      else .take (takeCorrection kind p it (c :: rest) s) := by
  have free : ¬(((c :: rest).filter fun c => !c.held) ≠ [] ∧ s.comp.printLine.isSome) := by
    rintro ⟨hpaper, feeding⟩
    rcases hfree with hnone | hnone
    · exact hpaper hnone
    · rw [hnone] at feeding
      exact Bool.noConfusion feeding
  simp only [tryCorrection, h]
  exact if_neg free

theorem correctionNeed_of_le {paper : List Candidate} {notify : Bool} (h : totalNeed s paper notify ≤ 64) :
    correctionNeed s paper notify = totalNeed s paper notify := if_pos h

theorem allEmpty_iff {targets : List Candidate} :
    (targets.all fun x => !x.held && isEmptyTarget s x.group s.comp.vpos) = true ↔
      ∀ x ∈ targets, x.held = false ∧ isEmptyTarget s x.group s.comp.vpos = true := by
  simp only [List.all_eq_true, Bool.and_eq_true, Bool.not_eq_true']

/-! ### The take of held targets (R115, R116) -/

theorem correctedEntries_line (held : List Nat) (new old : Nat) (es : List Entry) :
    correctedEntries .line held [] new old es =
      (es.filter fun e => !(e.group.any held.contains)).filter fun e => !(e.blankIn new old) := by
  have kept (e : Entry) : (e.group.any ([] : List Nat).contains || (Mode.line == .direct && e.blankIn new old)) = false := by
    cases h : e.group <;> simp
  simp only [correctedEntries, kept, List.filter_filter]
  simp [Bool.and_comm]

theorem correctedEntries_direct (held : List Nat) (new old : Nat) (es : List Entry) :
    correctedEntries .direct held [] new old es =
      (es.filter fun e => !(e.group.any held.contains)).map fun e =>
        if e.blankIn new old then { e with state := .lifted } else e := by
  have blank (e : Entry) : (e.group.any ([] : List Nat).contains || (Mode.direct == .direct && e.blankIn new old)) = e.blankIn new old := by
    cases h : e.group <;> simp
  have typed (b : Bool) : (Mode.direct == .line && b) = false := rfl
  simp only [correctedEntries, blank, typed, Bool.not_false, Bool.and_true]

theorem blankIn_eq (e : Entry) (new old : Nat) :
    e.blankIn new old = ((e.kind == .tab || e.kind == .space && e.group.isNone) && e.state != .lifted && decide (new ≤ e.pos) &&
      decide (e.pos < old)) := by
  rw [Entry.blankIn, Bool.or_comm]

/-- With held targets alone the take is the deletion and the blanking of the span, with the words derived again. -/
theorem takeTargets_held (hheld : ∀ x ∈ c :: rest, x.held = true) :
    takeTargets (c :: rest) s =
      (let point := (rest.map Candidate.key).foldl min c.key
      let v := s.setEntries (correctedEntries s.comp.mode ((c :: rest).map Candidate.group) [] point s.comp.printPoint s.entries)
      respell { v with comp := { v.comp with printPoint := point } }) := by
  have held : (c :: rest).filter Candidate.held = c :: rest := List.filter_eq_self.2 hheld
  have paper : ((c :: rest).filter fun c => !c.held) = [] := List.filter_eq_nil_iff.2 fun x hx => by simp [hheld x hx]
  unfold takeTargets
  rw [held, paper]
  rfl

/-- R118: a correction of held targets needs room for its MARK alone. -/
theorem tryCorrection_held (h : chooseTargets kind s (targetLookup s) = c :: rest) (hheld : ∀ x ∈ c :: rest, x.held = true)
    (hroom : s.Room it 0) :
    tryCorrection kind s p it = takePlacing s p it [] (takeTargets (c :: rest) s) := by
  have paper : ((c :: rest).filter fun c => !c.held) = [] := List.filter_eq_nil_iff.2 fun x hx => by simp [hheld x hx]
  have notEmpty : ¬(((c :: rest).all fun x => !x.held && isEmptyTarget s x.group s.comp.vpos) = true) := fun empty => by
    obtain ⟨paperFirst, -⟩ := allEmpty_iff.1 empty c List.mem_cons_self
    rw [hheld c List.mem_cons_self] at paperFirst
    exact Bool.noConfusion paperFirst
  have marks : (doneMarks p it).length ≤ freePlaces s := by
    obtain ⟨bound, -⟩ := hroom
    simp only [freePlaces, doneMarks, Config.strikePlaces]
    split <;> simp_all <;> omega
  have need : correctionNeed s [] it.notify = (doneMarks p it).length := by
    unfold correctionNeed totalNeed doneMarks
    cases it.notify <;> rfl
  have enough : ¬correctionRoom s [] < correctionNeed s [] it.notify := by
    rw [need]
    exact not_lt.2 marks
  rw [tryCorrection_judged h (.inl paper), if_neg notEmpty, paper, if_neg enough, takePlacing, List.nil_append,
    if_neg (not_lt.2 marks), takeCorrection]
  dsimp only
  rw [paper, if_pos rfl]

/-! ### The take of a paper target (R117 to R123) -/

theorem withdraw_of_noneQueued {g : Nat} (hprints : queuedPrints s g = 0) (hlifts : queuedLifts s g = 0) : withdraw g s = s := by
  have stays : (s.seq.queue.filter fun e => !(e.ofGroup g)) = s.seq.queue := List.filter_eq_self.2 fun e he => by
    have noPrint := List.countP_eq_zero.1 hprints e he
    have noLift := List.countP_eq_zero.1 hlifts e he
    simp [SEntry.ofGroup, noPrint, noLift]
  rw [withdraw, stays]

theorem setEntries_closed {es : List Entry} (h : s.comp.line = none) : s.setEntries es = s := by
  rw [State.setEntries, h, Option.map_none, ← h]

theorem respell_closed (h : s.comp.line = none) : respell s = s := by
  rw [respell, h]

theorem takeTargets_paper (hline : s.comp.line = none) (hpaper : c.held = false) (hprints : queuedPrints s c.group = 0)
    (hlifts : queuedLifts s c.group = 0) :
    takeTargets [c] s = { s with comp := { s.comp with printPoint := c.key } } := by
  have held : [c].filter Candidate.held = [] := by simp [hpaper]
  have paper : ([c].filter fun c => !c.held) = [c] := by simp [hpaper]
  unfold takeTargets
  rw [held, paper]
  dsimp only [List.map, List.foldl]
  rw [withdraw_of_noneQueued hprints hlifts, setEntries_closed hline]
  exact respell_closed hline

theorem granted_free (h : u.grantFixed = false) : u.granted = { u with arb := { u.arb with grant := u.boundaryGrant } } := by
  rw [State.granted, if_neg (by rw [h]; exact Bool.false_ne_true)]

/-- R173: the grant decision of a take stands, whatever was decided before its head item was gone. -/
theorem granted_headGone_granted (h : (u.headGone p).grantFixed = false) : (u.granted.headGone p).granted = (u.headGone p).granted := by
  have free : (u.granted.headGone p).grantFixed = false := by cases p <;> exact h
  rw [granted_free h, granted_free free]
  cases p <;> rfl

/-- R119 to R123: the correction of one whole target, with room for its LIFTs and the MARK, ends in the event of its take. -/
theorem takeCorrection_paper (hline : s.comp.line = none) (hcorrection : s.comp.correction = none) (hpaper : c.held = false)
    (hflight : printInFlight s c.group = false) (hprints : queuedPrints s c.group = 0) (hlifts : queuedLifts s c.group = 0)
    (hwhole : isShortTarget s c.group s.comp.vpos c.space = false)
    (hroom : s.Room it (groupRecords s c.group s.comp.vpos).length) :
    takeCorrection kind p it [c] s =
      State.granted (State.placed { s with comp := { s.comp with printPoint := c.key } } p it
        ((groupRecords s c.group s.comp.vpos).reverse.map (liftOf p))) := by
  obtain ⟨bound, -⟩ := hroom
  let d := newCorrection kind p it [c] s
  let v : State := { s with comp := { s.comp with printPoint := c.key, correction := some d } }
  let lifts := (groupRecords s c.group s.comp.vpos).reverse.map (liftOf p)
  have room : (groupRecords v c.group d.vpos).length ≤ freePlaces v := by
    change (groupRecords s c.group s.comp.vpos).length ≤ 64 - s.seq.queue.length
    omega
  have whole : ¬((c.toTarget s).withdrawn = false ∧ isShortTarget v c.group d.vpos c.space = true) := by
    rintro ⟨-, short⟩
    rw [show isShortTarget v c.group d.vpos c.space = isShortTarget s c.group s.comp.vpos c.space from rfl, hwhole] at short
    exact Bool.noConfusion short
  have placed := placeTargets_places (s := v) (c := d) (x := c.toTarget s) (rest := []) hflight room
  have ends (e : Correction) (hshorts : e.shorts = 0) (hnotify : e.notify = it.notify) (hport : e.port = p) (htag : e.tag = it.tag) :
      closeCorrection e (v.queued lifts) =
        State.granted (State.placed { s with comp := { s.comp with printPoint := c.key } } p it lifts) := by
    have mark : e.notify = false ∨ 1 ≤ freePlaces (v.queued lifts) := by
      rw [hnotify]
      by_cases hbit : it.notify = true
      · rw [if_pos hbit] at bound
        refine .inr ?_
        simp only [lifts, freePlaces, State.queued, List.length_append, List.length_map, List.length_reverse, Config.strikePlaces]
        change 1 ≤ 64 - (s.seq.queue.length + _)
        omega
      · exact .inl (Bool.eq_false_of_not_eq_true hbit)
    rw [closeCorrection_ends mark, State.correctionOver]
    dsimp only
    rw [if_pos hshorts, hnotify, hport, htag, ← hcorrection]
    rfl
  have paper : ([c].filter fun c => !c.held) = [c] := by simp [hpaper]
  rw [takeCorrection]
  dsimp only
  rw [paper, if_neg (List.cons_ne_nil _ _), takeTargets_paper hline hpaper hprints hlifts]
  change correctionWork v = _
  rw [correctionWork_closing (s := v) rfl placed rfl]
  exact ends _ (congrArg (d.shorts + ·) (if_neg whole)) rfl rfl rfl

end Sys2Proof.Machine

namespace Sys2Proof.Proofs
open Sys2Proof.Machine

/-- Settles O47: room for the MARK is all that held targets need, and their take is the deletion and the blanked span. -/
theorem heldTargetsDeleted : Obligations.HeldTargetsDeleted := by
  unfold Obligations.HeldTargetsDeleted
  intro s p it kind c rest h htargets hheld hroom groups point blank left es v u row hcmd
  obtain ⟨mine, hrow, hmine, htry, hecho⟩ := exec_correction (s := s) (p := p) (kind := kind) hcmd
  have entries : correctedEntries s.comp.mode groups [] point s.comp.printPoint s.entries = es := by
    have same : blank = fun e => e.blankIn point s.comp.printPoint := funext fun e => (blankIn_eq ..).symm
    unfold es left
    rw [same]
    cases s.comp.mode with
    | line => exact correctedEntries_line ..
    | direct => exact correctedEntries_direct ..
  have deleted : takeTargets (c :: rest) s = u := by
    rw [takeTargets_held hheld]
    dsimp only
    rw [show correctedEntries s.comp.mode _ [] _ s.comp.printPoint s.entries = es from entries]
  have placing := tryCorrection_held (p := p) htargets hheld hroom
  rw [deleted] at placing
  exact row_taken hrow h hmine (htry.trans placing) (respell_seq _) hecho hroom

/-- Settles O48: the correction is created and ends in one event, its grant decision overtaken by that of the take. -/
theorem paperTargetLifted : Obligations.PaperTargetLifted := by
  unfold Obligations.PaperTargetLifted
  intro s p it kind c h htargets hpaper hline hprint hflight hprints hlifts hwhole records lifts row hcmd hroom hbusy
  obtain ⟨mine, hrow, hmine, htry, hecho⟩ := exec_correction (s := s) (p := p) (kind := kind) hcmd
  obtain ⟨-, hcorrection, htakeover, hflush, -⟩ := head_eq_some_iff.1 h
  have whole : isEmptyTarget s c.group s.comp.vpos = false := (Bool.or_eq_false_iff.1 hwhole).1
  have paper : ([c].filter fun c => !c.held) = [c] := by simp [hpaper]
  have notEmpty : ¬(([c].all fun x => !x.held && isEmptyTarget s x.group s.comp.vpos) = true) := by simp [whole]
  have enough : ¬correctionRoom s [c] < correctionNeed s [c] it.notify := by
    obtain ⟨bound, -⟩ := hroom
    have need : totalNeed s [c] it.notify = records.length + if it.notify = true then 1 else 0 := by
      simp [totalNeed, liftNeed, hlifts, hflight, records]
    have room : correctionRoom s [c] = 64 - s.seq.queue.length := by
      simp [correctionRoom, hprints, hlifts, freePlaces, Config.strikePlaces]
    have need_le : totalNeed s [c] it.notify ≤ 64 := by
      rw [need]
      omega
    rw [correctionNeed_of_le need_le, need, room]
    omega
  let v : State := { s with comp := { s.comp with printPoint := c.key } }
  have taken : tryCorrection kind s p it = .take (v.placed p it lifts).granted := by
    rw [tryCorrection_judged htargets (.inr hprint), if_neg notEmpty, paper, if_neg enough]
    exact congrArg Try.take (takeCorrection_paper hline hcorrection hpaper hflight hprints hlifts hwhole hroom)
  have free : ((v.placed p it lifts).headGone p).grantFixed = false := by
    cases p <;> simp [State.grantFixed, State.headGone, State.placed, v, hline, hcorrection, htakeover, hflush]
  have after : afterTry s p it (tryCmd s p it) = v.taken p it lifts := by
    rw [htry, taken, afterTry, popHead_eq, echoTake_none _ _ _ _ hecho, decideGrant_eq, granted_headGone_granted free]
    rfl
  refine ⟨_, hrow, ?_⟩
  rw [takeRow_eq mine s p it h hmine, after, settleIfQueued_engaged]
  · exact leaves_finish _ _
  · refine engaged_seq s _ hbusy ?_ ?_ ?_ <;> cases p <;> rfl

/-- Settles O49, by the tests of a try in their order. -/
theorem correctionRefusedOrWaits : Obligations.CorrectionRefusedOrWaits := by
  unfold Obligations.CorrectionRefusedOrWaits
  intro s p it kind h targets paper row hcmd
  obtain ⟨mine, hrow, hmine, htry, -⟩ := exec_correction (s := s) (p := p) (kind := kind) hcmd
  refine ⟨fun hnone => ?_, fun hpaper hfeeding => ?_, fun c rest hsome hfree => ⟨fun hempty => ?_, fun hnot hshort => ?_⟩⟩
  · exact row_refused hrow h hmine (htry.trans (tryCorrection_noTarget hnone))
  · exact row_waits hrow h hmine (htry.trans (tryCorrection_feeding hpaper hfeeding))
  · have judged := tryCorrection_judged (p := p) (it := it) hsome (.inr hfree)
    exact row_refused hrow h hmine (htry.trans (judged.trans (if_pos (allEmpty_iff.2 (hsome ▸ hempty)))))
  · have judged := tryCorrection_judged (p := p) (it := it) hsome (.inr hfree)
    have left : ¬(((c :: rest).all fun x => !x.held && isEmptyTarget s x.group s.comp.vpos) = true) := fun all => by
      obtain ⟨x, hx, hxnot⟩ := hnot
      obtain ⟨hheld, hempty⟩ := allEmpty_iff.1 all x (hsome ▸ hx)
      simp [hheld, hempty] at hxnot
    have full : correctionRoom s ((c :: rest).filter fun c => !c.held) <
        correctionNeed s ((c :: rest).filter fun c => !c.held) it.notify := by
      rw [← hsome]
      exact hshort
    exact row_waits hrow h hmine (htry.trans (judged.trans ((if_neg left).trans (if_pos full))))

end Sys2Proof.Proofs
end

-- ==== Sys2Proof/Proofs/LineRelease ====
section
/-! SUPPORT. RETURN and RETURN FLUSH in LINE mode: the hold test, the choice of R54, the hand-over to the print line (R49 to R60,
R146). -/

namespace Sys2Proof.Machine

variable {s : State} {p : Port} {it : QItem} {row : Instr} {l : ComposeLine}

/-! ### The row -/

theorem exec_return (hcommand : it.cmd = .ret 0 ∧ row = .ret ∨ it.cmd = .ret 1 ∧ row = .returnFlush) (hmode : s.comp.mode = .line) :
    ∃ mine flush, exec row s = .next (takeRow mine s) ∧ mine it.cmd = true ∧ tryCmd s p it = tryReturnLine s p it flush ∧
      echoOf it.cmd (impliesReturn s p) = some (0x46, some 0x0D) ∧ (it.cmd = .ret 0 → flush = false) ∧
      (row = .returnFlush → flush = true) := by
  obtain ⟨cmd, tag, notify⟩ := it
  rcases hcommand with ⟨hcmd, hrow⟩ | ⟨hcmd, hrow⟩ <;> obtain rfl : cmd = _ := hcmd <;> subst hrow
  · exact ⟨isRet, false, rfl, rfl, by simp only [tryCmd, tryReturn, hmode]; rfl, rfl, fun _ => rfl, nofun⟩
  · exact ⟨isReturnFlush, true, rfl, rfl, by simp only [tryCmd, tryReturn, hmode]; rfl, rfl, nofun, fun _ => rfl⟩

theorem tryReturnLine_waits {flush : Bool} (hfeeding : s.comp.printLine ≠ none) : tryReturnLine s p it flush = .wait s :=
  if_pos (Option.isSome_iff_ne_none.2 hfeeding)

theorem tryReturnLine_passes {flush : Bool} (hfree : s.comp.printLine = none) (h : holdTest s = .pass s) :
    tryReturnLine s p it flush = .take (release flush p it.tag it.notify s) := by
  rw [tryReturnLine, if_neg (by simp [hfree]), h]

theorem tryReturnLine_checking {flush : Bool} (hfree : s.comp.printLine = none) (h : holdTest s = .wait s) :
    tryReturnLine s p it flush = .wait s := by
  rw [tryReturnLine, if_neg (by simp [hfree]), h]

theorem tryReturnLine_held {flush : Bool} (hfree : s.comp.printLine = none) (h : holdTest s = .refuse s) :
    tryReturnLine s p it flush = .refuse s .spellingHold .plain := by
  rw [tryReturnLine, if_neg (by simp [hfree]), h]

/-- R49, R51: a released line's row, with the mechanism busy. -/
theorem leaves_release {mine : QCmd → Bool} {flush : Bool} (hrow : exec row s = .next (takeRow mine s)) (h : s.head = some (p, it))
    (hmine : mine it.cmd = true) (htry : tryCmd s p it = .take (release flush p it.tag it.notify s))
    (hecho : echoOf it.cmd (impliesReturn s p) = some (0x46, some 0x0D)) (hbusy : s.Engaged) :
    ∃ t, exec row s = .next t ∧
      Leaves s t ((((release flush p it.tag it.notify s).headGone p).granted).echoed p it 0x46 (some 0x0D)) := by
  have busy := (release_sameMechanism flush p it.tag it.notify s).engaged hbusy
  generalize release flush p it.tag it.notify s = u at htry busy
  have after : afterTry s p it (tryCmd s p it) = ((u.headGone p).granted).echoed p it 0x46 (some 0x0D) := by
    rw [htry, afterTry, popHead_eq, echoTake_some _ _ _ _ _ _ hecho, decideGrant_eq, granted_echoed]
  refine ⟨_, hrow, ?_⟩
  rw [takeRow_eq mine s p it h hmine, after, settleIfQueued_engaged]
  · exact leaves_finish _ _
  · unfold State.echoed
    split <;> exact engaged_seq u _ busy (by cases p <;> rfl) (by cases p <;> rfl) (by cases p <;> rfl)

/-! ### The hold test (R146) -/

theorem holdTest_passes (h : s.spell.mode ≠ .hold ∨ l.port = .interface) (hline : s.comp.line = some l) :
    holdTest s = .pass s := by
  have free : ((s.comp.line.any fun l => l.port == .console) && s.spell.mode == .hold) = false := by
    rw [hline]
    rcases h with hmode | hport
    · simp [hmode]
    · simp [hport]
  rw [holdTest, free]
  rfl

theorem holdTest_closed (hline : s.comp.line = none) : holdTest s = .pass s := by
  rw [holdTest, hline]
  rfl

theorem completeLast_complete (h : ∀ w ∈ s.spell.words, w.state ≠ .opened) : completeLast s = s := by
  unfold completeLast
  split
  case h_1 w _ hlast =>
    rw [if_neg (h w (List.mem_of_getLast? hlast))]
  case h_2 => rfl

/-- The hold test is made, and the last word is complete. -/
theorem holdTest_made (hline : s.comp.line = some l) (hport : l.port = .console) (hmode : s.spell.mode = .hold)
    (hcomplete : ∀ w ∈ s.spell.words, w.state ≠ .opened) :
    holdTest s = if (s.spell.words.any fun w => w.state == .checking) = true then .wait s
      else if s.spell.words.any WordRec.alerted = true then .refuse s else .pass s := by
  have made : ((s.comp.line.any fun l => l.port == .console) && s.spell.mode == .hold) = true := by
    rw [hline]
    simp [hport, hmode]
  rw [holdTest, if_pos made, completeLast_complete hcomplete]

/-! ### The choice of R54 -/

section
variable {c : Composer}

theorem chooseLayout_nothing {flush : Bool} (h : keptEntries l.entries = []) : chooseLayout c l flush = .flushLeft := if_pos h

theorem chooseLayout_flush : chooseLayout c l true = .flushLeft := by
  unfold chooseLayout
  dsimp only
  split <;> rfl

theorem chooseLayout_marginRelease (hkept : keptEntries l.entries ≠ []) (hmargin : l.marginRelease = true) :
    chooseLayout c l false = (c.alignment.map fun r => Layout.ignored r .marginRelease).getD .flushLeft := by
  simp only [chooseLayout, if_neg hkept, hmargin]
  cases c.alignment <;> rfl

theorem chooseLayout_centre (hkept : keptEntries l.entries ≠ []) (hmargin : l.marginRelease = false)
    (halign : c.alignment = some .centre) :
    chooseLayout c l false =
      if ((keptEntries l.entries).any fun e => e.kind == .tab) = true then .ignored .centre .tab else .centre := by
  simp only [chooseLayout, if_neg hkept, hmargin, halign]
  rfl

theorem chooseLayout_right (hkept : keptEntries l.entries ≠ []) (hmargin : l.marginRelease = false)
    (halign : c.alignment = some .right) : chooseLayout c l false = .right := by
  simp only [chooseLayout, if_neg hkept, hmargin, halign]
  rfl

theorem chooseLayout_unrequested (hkept : keptEntries l.entries ≠ []) (hmargin : l.marginRelease = false)
    (halign : c.alignment = none) :
    chooseLayout c l false =
      (let span := spanOf (spanStart l.opening (keptEntries l.entries)) (keptEntries l.entries)
      if c.justify = false ∨ gapCount span = 0 then .flushLeft
      else admitJustified c.smax (spanStart l.opening (keptEntries l.entries)) c.rm span) := by
  simp only [chooseLayout, if_neg hkept, hmargin, halign]
  rfl

end

/-! ### The hand-over to the print line (R51) -/

theorem returned_setPrintLine (u : State) (x : Option PrintLine) :
    State.returned { u with comp := { u.comp with printLine := x } } =
      { u.returned with comp := { u.returned.comp with printLine := x } } := by
  have spelling : (endWords { u with comp := { u.comp with printLine := x } }).spell = (endWords u).spell := by
    unfold endWords completeLast
    dsimp only
    split
    · split <;> rfl
    · rfl
  unfold State.returned State.lineClosed
  dsimp only
  rw [spelling]
  split <;> rfl

/-- The print line that a release of s makes, of entries es. -/
def State.handedOver (s : State) (port : Port) (vpos : Nat) (it : QItem) (es : List PrintEntry) : PrintLine :=
  ⟨port, vpos, it.tag, it.notify, es, 0, s.marginAfter, s.comp.spacing, s.vposAfter, false⟩

theorem newPrintLine_eq (port : Port) (vpos : Nat) (es : List PrintEntry) :
    newPrintLine s port vpos it.tag it.notify es = s.handedOver port vpos it es := by
  rw [newPrintLine, returnLm_eq, spacedVpos_eq]
  rfl

/-- A line returned from, its entries handed over. -/
def State.released (u : State) (x : PrintLine) : State := { u.returned with comp := { u.returned.comp with printLine := some x } }

theorem release_closed {flush : Bool} (hline : s.comp.line = none) :
    release flush p it.tag it.notify s = feed (s.released (s.handedOver p s.comp.vpos it [])) := by
  rw [release, hline]
  dsimp only
  rw [releaseNone, newPrintLine_eq, returnMove_eq, returned_setPrintLine]
  rfl

/-- R60: a release's report to the line's port. -/
def State.reportedTo (u : State) (port : Port) (tag : Byte) : Option Report → State
  | some b => report u port tag b
  | none => u

/-- The report of a layout (R60). -/
def Layout.report (layout : Layout) (c : Composer) (l : ComposeLine) : Option Report :=
  let span := spanOf (spanStart l.opening (keptEntries l.entries)) (keptEntries l.entries)
  match layout with
  | .loose cause => some (.looseLine l.vpos cause (spareUnits c.rm span) (gapCount span))
  | .ignored r cause => some (.alignIgnored l.vpos r cause)
  | _ => none

theorem releaseReport_eq (layout : Layout) (u : State) :
    releaseReport l.port it.tag l s.comp.rm layout u = u.reportedTo l.port it.tag (layout.report s.comp l) := by
  cases layout <;> rfl

theorem release_open {flush : Bool} {layout : Layout} (hline : s.comp.line = some l) (hlayout : chooseLayout s.comp l flush = layout) :
    release flush p it.tag it.notify s =
      (let numbered := numberBridged (finalEntries s.comp l layout) s
      feed ((numbered.2.released (s.handedOver l.port l.vpos it numbered.1)).reportedTo l.port it.tag (layout.report s.comp l))) := by
  rw [release, hline]
  dsimp only
  rw [releaseOpen, hlayout]
  dsimp only
  rw [newPrintLine_eq, returnMove_eq, returned_setPrintLine, releaseReport_eq]
  rfl

/-- R59: a line without a bridged gap is handed over as it is. -/
theorem numberBridged_numbered : ∀ (es : List PrintEntry) (s : State),
    (∀ e ∈ es, e.kind = .space → e.underline = true → e.group ≠ none) → numberBridged es s = (es, s) := by
  intro es
  induction es with
  | nil => exact fun _ _ => rfl
  | cons e rest ih =>
    intro s h
    have numbered : ¬(e.kind = .space ∧ e.underline = true ∧ e.group = none) := fun ⟨hspace, hunder, hnone⟩ =>
      h e List.mem_cons_self hspace hunder hnone
    rw [numberBridged, if_neg numbered, ih s fun x hx => h x (List.mem_cons_of_mem _ hx)]

end Sys2Proof.Machine

namespace Sys2Proof.Proofs
open Sys2Proof.Machine

theorem releaseFlushLeft : Sys2Proof.Claims.ReleaseFlushLeft := by
  intro s p it row h hmode hcommand
  obtain ⟨mine, flush, hrow, hmine, htry, hecho, -, hflush⟩ := exec_return (p := p) hcommand hmode
  refine ⟨fun hfeeding => row_waits hrow h hmine (htry.trans (tryReturnLine_waits hfeeding)), fun hfree hbusy => ?_⟩
  intro kept released line v told
  have passed (hpass : holdTest s = .pass s) : tryCmd s p it = .take (release flush p it.tag it.notify s) :=
    htry.trans (tryReturnLine_passes hfree hpass)
  refine ⟨fun hline => ?_, fun l hline hreturnFlush hnoTest hnumbered => ?_⟩
  · have left := leaves_release hrow h hmine (passed (holdTest_closed hline)) hecho hbusy
    have nothing : kept = [] := by
      unfold kept State.entries
      rw [hline]
      rfl
    have same : line p s.comp.vpos = s.handedOver p s.comp.vpos it [] := by
      unfold line
      rw [nothing]
      rfl
    rw [release_closed hline] at left
    rw [same]
    exact left
  · have left := leaves_release hrow h hmine (passed (holdTest_passes hnoTest hline)) hecho hbusy
    obtain rfl : flush = true := hflush hreturnFlush
    have entries : finalEntries s.comp l .flushLeft = kept.map released := by
      unfold kept State.entries
      rw [hline]
      rfl
    have kept_all : numberBridged (kept.map released) s = (kept.map released, s) := by
      refine numberBridged_numbered _ s fun e he => ?_
      obtain ⟨x, hx, rfl⟩ := List.mem_map.1 he
      exact hnumbered x hx
    rw [release_open hline chooseLayout_flush, entries, kept_all] at left
    exact left

theorem releaseByReturn : Sys2Proof.Claims.ReleaseByReturn := by
  intro s p it l h hcmd hmode hfree hline hnoTest hbusy kept start inSpan span gaps spare most reach width clamped shifted released typed
  obtain ⟨mine, flush, hrow, hmine, htry, hecho, hflush, -⟩ := exec_return (p := p) (row := .ret) (.inl ⟨hcmd, rfl⟩) hmode
  obtain rfl : flush = false := hflush hcmd
  have taken : tryCmd s p it = .take (release false p it.tag it.notify s) :=
    htry.trans (tryReturnLine_passes hfree (holdTest_passes hnoTest hline))
  have left := leaves_release hrow h hmine taken hecho hbusy
  -- the row, by the layout that R54 chooses
  have byLayout (layout : Layout) (hlayout : chooseLayout s.comp l false = layout) :
      released (finalEntries s.comp l layout) (layout.report s.comp l) := by
    rw [release_open hline hlayout] at left
    unfold released
    cases hreport : layout.report s.comp l with
    | none =>
      rw [hreport] at left
      exact left
    | some b =>
      rw [hreport] at left
      exact left
  refine ⟨fun hnothing => ?_, fun hkept hmargin => ⟨fun halign => ?_, fun r halign => ?_⟩,
    fun hkept hmargin halign => ⟨fun htab => ?_, fun hnoTab => ?_⟩, fun hkept hmargin halign => ?_, fun hkept hmargin halign => ?_⟩
  · have laid := byLayout .flushLeft (chooseLayout_nothing hnothing)
    rw [show finalEntries s.comp l .flushLeft = [] from congrArg (List.map _) hnothing] at laid
    exact laid
  · exact byLayout .flushLeft ((chooseLayout_marginRelease hkept hmargin).trans (by rw [halign]; rfl))
  · exact byLayout (.ignored r .marginRelease) ((chooseLayout_marginRelease hkept hmargin).trans (by rw [halign]; rfl))
  · have tab : ((keptEntries l.entries).any fun e => e.kind == .tab) = true := by
      obtain ⟨e, he, hkind⟩ := htab
      exact List.any_eq_true.2 ⟨e, he, by simp [hkind]⟩
    exact byLayout (.ignored .centre .tab) ((chooseLayout_centre hkept hmargin halign).trans (if_pos tab))
  · have noTab : ¬((keptEntries l.entries).any fun e => e.kind == .tab) = true := fun tab => by
      obtain ⟨e, he, hkind⟩ := List.any_eq_true.1 tab
      exact hnoTab e he (by simpa using hkind)
    exact byLayout .centre ((chooseLayout_centre hkept hmargin halign).trans (if_neg noTab))
  · exact byLayout .right (chooseLayout_right hkept hmargin halign)
  · have chosen := chooseLayout_unrequested hkept hmargin halign
    refine ⟨fun hoff => ?_, fun hjustify hgaps hbroken => ?_, fun hjustify hgaps hwhole hstretch => ?_,
      fun hjustify hgaps hwhole hfits => ?_⟩
    · exact byLayout .flushLeft (chosen.trans (if_pos hoff))
    · have on : ¬(s.comp.justify = false ∨ gaps = 0) := by simp [hjustify]; omega
      exact byLayout (.loose .brokenSpan) (chosen.trans ((if_neg on).trans (if_pos hbroken)))
    · have on : ¬(s.comp.justify = false ∨ gaps = 0) := by simp [hjustify]; omega
      have whole : ¬continuousFrom start span = false := by simp [hwhole]
      exact byLayout (.loose .stretch) (chosen.trans ((if_neg on).trans ((if_neg whole).trans (if_pos hstretch))))
    · have on : ¬(s.comp.justify = false ∨ gaps = 0) := by simp [hjustify]; omega
      have whole : ¬continuousFrom start span = false := by simp [hwhole]
      exact byLayout .justified (chosen.trans ((if_neg on).trans ((if_neg whole).trans (if_neg (not_lt.2 hfits)))))

theorem spellingHoldsReturn : Sys2Proof.Claims.SpellingHoldsReturn := by
  intro s p it l row h hcommand hmode hfree hline hport hhold hcomplete
  obtain ⟨mine, flush, hrow, hmine, htry, -⟩ := exec_return (p := p) hcommand hmode
  have made := holdTest_made hline hport hhold hcomplete
  refine ⟨fun hchecking => row_waits hrow h hmine (htry.trans (tryReturnLine_checking hfree ?_)),
    fun hnone halert => row_refused hrow h hmine (htry.trans (tryReturnLine_held hfree ?_))⟩
  · have checking : (s.spell.words.any fun w => w.state == .checking) = true := by
      obtain ⟨w, hw, hstate⟩ := hchecking
      exact List.any_eq_true.2 ⟨w, hw, by simp [hstate]⟩
    rw [made, if_pos checking]
  · have decided : ¬(s.spell.words.any fun w => w.state == .checking) = true := fun checking => by
      obtain ⟨w, hw, hstate⟩ := List.any_eq_true.1 checking
      exact hnone w hw (by simpa using hstate)
    have alerted : s.spell.words.any WordRec.alerted = true := by
      obtain ⟨w, hw, hstate⟩ := halert
      exact List.any_eq_true.2 ⟨w, hw, by simpa [WordRec.alerted] using hstate⟩
    rw [made, if_neg decided, if_pos alerted]

/-- Settles O42, by the hold test, then by the layout that R54 chooses. -/
theorem returnInLineMode : Obligations.ReturnInLineMode := ⟨releaseFlushLeft, releaseByReturn, spellingHoldsReturn⟩

end Sys2Proof.Proofs
end
